-- ==== Sys2Proof/Word.lean ====
section
/-! DEFINITION. The plain data the block's text speaks of: bytes, pin and bus identifiers, the five signal lines,
frames. -/

namespace Sys2Proof

/-- A byte, 0 to 255, bit 0 least significant (00_scope.md R11). -/
abbrev Byte := BitVec 8

/-- A pin identifier: opaque to the block, no rule computes with it (10_state.md R22). -/
abbrev PinId := Nat

/-- The sensor's bus identifier: opaque, OPEN width (10_state.md R21, D28). -/
abbrev BusAddress := Nat

/-- The bytes agent TRANSPORT delivers for one transfer, offset 0 first; the delivered length `n` is the length of the
list (20_memory.md R60). -/
abbrev Frame := List Byte

/-- The five signal lines (30_encoding.md R92): data-ready and gesture 0 to 3. -/
inductive Line where
  | dataReady
  | gesture0
  | gesture1
  | gesture2
  | gesture3
  deriving DecidableEq, Repr

/-- What the block has done to the data-ready pin (10_state.md R35). -/
inductive DrLineMode where
  /-- The pin is in its "active/input sensing state". -/
  | sense
  /-- The block holds the pin in the "passive/low state" (the acknowledgment). -/
  | holdLow
  deriving DecidableEq, Repr

end Sys2Proof
end

