-- ==== Sys2Proof/Config.lean ====
section
/-! DEFINITION. What an implementation of the block fixes (00_scope.md R9, R10; 92_eei_decisions.md part 2): the open
parameters, the fixed ones, the labels, and the two constants the spec leaves OPEN (opaque: no proof can see them). -/

namespace Sys2Proof

/-- `LEN_READING`: which reading of "that value minus 1" at offset 0 the decoder takes (R10, R206, D5). -/
inductive LenReading where
  /-- `if b > expected then expected <- b`, the normative reading (R176). -/
  | total
  /-- `if b > expected then expected <- b - 1`, the reading that was set aside (R206). -/
  | literalMinusOne
  deriving DecidableEq, Repr

/-- `SELECT`: how `service` reads `mask` to choose its bit (R10, R151, R160, D13). -/
inductive SelectMode where
  /-- One read of `mask`; the choice is made from the snapshot, the normative rule (R151). -/
  | snapshot
  /-- A fresh read of `mask` for each bit tested (R160). -/
  | chained
  deriving DecidableEq, Repr

/-- The parameters the model takes as arguments (R10). They never change while the machine runs. -/
structure Params where
  /-- `INIT_EXPECTED` less 1, so that the range 1 to 32 of D4 holds by construction. -/
  initExpectedPred : Fin 32
  /-- `LEN_READING`. -/
  lenReading : LenReading
  /-- `SELECT`. -/
  select : SelectMode
  /-- `ENV_NO_DR_WHILE_LOW`: no data-ready firing while the block holds the line low (R324). -/
  envNoDrWhileLow : Bool
  deriving DecidableEq, Repr

/-- `INIT_EXPECTED`, an integer from 1 to 32 (R10, D4). -/
def Params.initExpected (p : Params) : Nat := p.initExpectedPred.val + 1

/-- `INIT_EXPECTED` less 1 of the machine at hand: OPEN (D4, N2), so no value is given here. -/
opaque Config.initExpectedPred : Fin 32

/-- The parameters of the machine at hand: `INIT_EXPECTED` open, the others at the spec's normative defaults
(92_eei_decisions.md part 2). -/
def Config.params : Params :=
  { initExpectedPred := Config.initExpectedPred
    lenReading := .total
    select := .snapshot
    envNoDrWhileLow := false }

/-- The label identifiers 1 to 9 of `LABEL_TABLE`, and 0 for the empty label (30_encoding.md R106, D21). -/
inductive Label where
  | empty
  | rightSwipe
  | leftSwipe
  | upSwipe
  | downSwipe
  | tapSouth
  | tapWest
  | tapNorth
  | tapEast
  | tapCenter
  deriving DecidableEq, Repr

/-- The values `dump` renders (43_state_ops.md R238). -/
structure DumpContent where
  x : Int
  y : Int
  z : Int
  swipeLabel : Label
  tapLabel : Label
  airWheel : Int
  deriving DecidableEq, Repr

/-- `DUMP_LAYOUT`: the text of a dump, OPEN (D24, N19), so no body is given here. -/
opaque Config.dumpLayout : DumpContent → String

end Sys2Proof
end

