-- ==== Sys2Proof/Syntax.lean ====
section
/-! DEFINITION. The instructions: one constructor per row of spec/opcode_table.json. The 21 operations of
30_encoding.md R90 carry the operands that travel beside their command word (R91); the 32 byte handlers of R96 carry
the frame byte they handle, and their constructor is the offset that selects them (42_frame_decoder.md R175). -/

namespace Sys2Proof

/-- The instructions of the block. -/
inductive Instr where
  /-- `construct(dataReadyPin, resetPin, busAddress)` (R239). -/
  | construct (dataReadyPin resetPin : PinId) (busAddress : BusAddress)
  /-- `setGestureIrqPin(lineIndex, pin)`, `lineIndex` any integer (R240). -/
  | setGestureIrqPin (lineIndex : Int) (pin : PinId)
  /-- `begin()` (R243). -/
  | beginOp
  /-- `service()`, with the frame TRANSPORT delivers should the call decode (R150, R113). -/
  | service (frame : Frame)
  /-- `markClean()` (R230). -/
  | markClean
  /-- `readReg.x` (R231). -/
  | readRegX
  /-- `readReg.y` (R231). -/
  | readRegY
  /-- `readReg.z` (R231). -/
  | readRegZ
  /-- `readReg.swipe` (R232). -/
  | readRegSwipe
  /-- `readReg.tap` (R233). -/
  | readRegTap
  /-- `readReg.generic` (R234). -/
  | readRegGeneric
  /-- `readReg.airwheel` (R235). -/
  | readRegAirwheel
  /-- `readReg.framecount` (R236). -/
  | readRegFramecount
  /-- `eventCodeToLabel(code)` (R237). -/
  | eventCodeToLabel (code : Byte)
  /-- `dump()` (R238). -/
  | dump
  /-- `markPending(0)`, the data-ready line; agent IRQ (R131). -/
  | markPendingDR
  /-- `markPending(1)`, gesture line 0; agent IRQ (R132). -/
  | markPendingG0
  /-- `markPending(2)`, gesture line 1; agent IRQ (R132). -/
  | markPendingG1
  /-- `markPending(3)`, gesture line 2; agent IRQ (R132). -/
  | markPendingG2
  /-- `markPending(4)`, gesture line 3; agent IRQ (R132). -/
  | markPendingG3
  /-- `decodeFrame()`, with the frame TRANSPORT delivers (R170). -/
  | decodeFrame (frame : Frame)
  /-- Offset 0: declared frame length (R176). -/
  | frame0 (b : Byte)
  /-- Offset 1: flag byte (R177). -/
  | frame1 (b : Byte)
  /-- Offset 2: sequence/ID (R178). -/
  | frame2 (b : Byte)
  /-- Offset 3: sequence/ID (R178). -/
  | frame3 (b : Byte)
  /-- Offset 4: data-output mask, low byte (R179). -/
  | frame4 (b : Byte)
  /-- Offset 5: data-output mask, high byte (R180). -/
  | frame5 (b : Byte)
  /-- Offset 6: timestamp (R181). -/
  | frame6 (b : Byte)
  /-- Offset 7: system-info flags (R182). -/
  | frame7 (b : Byte)
  /-- Offset 8: DSP info (R183). -/
  | frame8 (b : Byte)
  /-- Offset 9: DSP info (R183). -/
  | frame9 (b : Byte)
  /-- Offset 10: gesture info (R184). -/
  | frame10 (b : Byte)
  /-- Offset 11: reserved (R185). -/
  | frame11 (b : Byte)
  /-- Offset 12: reserved (R185). -/
  | frame12 (b : Byte)
  /-- Offset 13: reserved (R185). -/
  | frame13 (b : Byte)
  /-- Offset 14: touch info (R188). -/
  | frame14 (b : Byte)
  /-- Offset 15: touch info continued (R189). -/
  | frame15 (b : Byte)
  /-- Offset 16: reserved (R190). -/
  | frame16 (b : Byte)
  /-- Offset 17: reserved (R190). -/
  | frame17 (b : Byte)
  /-- Offset 18: air-wheel delta (R192). -/
  | frame18 (b : Byte)
  /-- Offset 19: air-wheel continued (R193). -/
  | frame19 (b : Byte)
  /-- Offset 20: position X, low byte (R194). -/
  | frame20 (b : Byte)
  /-- Offset 21: position X, high byte (R194). -/
  | frame21 (b : Byte)
  /-- Offset 22: position Y, low byte (R195). -/
  | frame22 (b : Byte)
  /-- Offset 23: position Y, high byte (R195). -/
  | frame23 (b : Byte)
  /-- Offset 24: position Z, low byte (R196). -/
  | frame24 (b : Byte)
  /-- Offset 25: position Z, high byte, and the commit (R196). -/
  | frame25 (b : Byte)
  /-- Offset 26: noise power (R197). -/
  | frame26 (b : Byte)
  /-- Offset 27: noise power (R197). -/
  | frame27 (b : Byte)
  /-- Offset 28: noise power (R197). -/
  | frame28 (b : Byte)
  /-- Offset 29: noise power (R197). -/
  | frame29 (b : Byte)
  /-- Offset 30: unspecified trailer (R198). -/
  | frame30 (b : Byte)
  /-- Offset 31: unspecified trailer (R198). -/
  | frame31 (b : Byte)
  deriving DecidableEq, Repr

/-- Who may run an instruction (30_encoding.md R90, 60_exceptions.md R288). -/
inductive Agent where
  /-- Agent IRQ, in the callback of one line. -/
  | irq (line : Line)
  /-- Agent SVC, called as an operation. -/
  | svc
  /-- Agent SVC inside `decodeFrame`: the handler of one frame byte. -/
  | decoder
  deriving DecidableEq, Repr

/-- The agent of each instruction (R90 column "agent"; R96 for the byte handlers). -/
def Instr.agent : Instr → Agent
  | .construct _ _ _ | .setGestureIrqPin _ _ | .beginOp | .service _ | .markClean => .svc
  | .readRegX | .readRegY | .readRegZ | .readRegSwipe | .readRegTap | .readRegGeneric => .svc
  | .readRegAirwheel | .readRegFramecount | .eventCodeToLabel _ | .dump | .decodeFrame _ => .svc
  | .markPendingDR => .irq .dataReady
  | .markPendingG0 => .irq .gesture0
  | .markPendingG1 => .irq .gesture1
  | .markPendingG2 => .irq .gesture2
  | .markPendingG3 => .irq .gesture3
  | .frame0 _ | .frame1 _ | .frame2 _ | .frame3 _ | .frame4 _ | .frame5 _ | .frame6 _ | .frame7 _ => .decoder
  | .frame8 _ | .frame9 _ | .frame10 _ | .frame11 _ | .frame12 _ | .frame13 _ | .frame14 _ | .frame15 _ => .decoder
  | .frame16 _ | .frame17 _ | .frame18 _ | .frame19 _ | .frame20 _ | .frame21 _ | .frame22 _ | .frame23 _ => .decoder
  | .frame24 _ | .frame25 _ | .frame26 _ | .frame27 _ | .frame28 _ | .frame29 _ | .frame30 _ | .frame31 _ => .decoder

end Sys2Proof
end

