-- ==== Sys2Proof/WellFormed.lean ====
section
/-! DEFINITION. Well-formed instructions. The one thing the spec asks of an operand that its type does not already
say is TRANSPORT's contract: a delivered frame has at most 32 bytes (20_memory.md R60, R64). Every other operand value
is legal: any `lineIndex` (an index outside 0..3 is answered by ConfigError, R240), any pin (N15), any code (R237), any
frame byte (R109). -/

namespace Sys2Proof

/-- `MAX_REQ`: the one bus read-request of a decode asks for up to 32 bytes (00_scope.md R9). -/
def maxRequest : Nat := 32

/-- A frame TRANSPORT may deliver: `0 ≤ n ≤ 32` (R60, R64). -/
def Frame.wf (f : Frame) : Bool := f.length ≤ maxRequest

/-- The checks on an instruction's operands. -/
def Instr.wf : Instr → Bool
  | .service f => Frame.wf f
  | .decodeFrame f => Frame.wf f
  | .construct _ _ _ | .setGestureIrqPin _ _ | .beginOp | .markClean => true
  | .readRegX | .readRegY | .readRegZ | .readRegSwipe | .readRegTap | .readRegGeneric => true
  | .readRegAirwheel | .readRegFramecount | .eventCodeToLabel _ | .dump => true
  | .markPendingDR | .markPendingG0 | .markPendingG1 | .markPendingG2 | .markPendingG3 => true
  | .frame0 _ | .frame1 _ | .frame2 _ | .frame3 _ | .frame4 _ | .frame5 _ | .frame6 _ | .frame7 _ => true
  | .frame8 _ | .frame9 _ | .frame10 _ | .frame11 _ | .frame12 _ | .frame13 _ | .frame14 _ | .frame15 _ => true
  | .frame16 _ | .frame17 _ | .frame18 _ | .frame19 _ | .frame20 _ | .frame21 _ | .frame22 _ | .frame23 _ => true
  | .frame24 _ | .frame25 _ | .frame26 _ | .frame27 _ | .frame28 _ | .frame29 _ | .frame30 _ | .frame31 _ => true

end Sys2Proof
end

