-- ==== Sys2Proof/Decode.lean ====
section
/-! DEFINITION. The encodings of 30_encoding.md: the 8-bit command word of R91 with the operands that travel beside it,
and the frame byte keyed on the offset counter (R96). The decoder is total and rejects by name; the encoder follows
it. -/

namespace Sys2Proof

/-- The operands that travel beside a command word and are not encoded in it (R91). -/
structure Operands where
  dataReadyPin : PinId
  resetPin : PinId
  busAddress : BusAddress
  lineIndex : Int
  pin : PinId
  code : Byte
  frame : Frame
  deriving DecidableEq, Repr

/-- Every operand zero or empty. -/
def Operands.zero : Operands :=
  { dataReadyPin := 0, resetPin := 0, busAddress := 0, lineIndex := 0, pin := 0, code := 0, frame := [] }

/-- A call as the caller makes it: the command word and what travels beside it (R91). -/
structure Packet where
  word : Byte
  beside : Operands
  deriving DecidableEq, Repr

/-- The two encoding spaces of spec/opcode_table.json: format OP, keyed on the command word, and format FRAME, keyed on
the offset counter (R96). -/
inductive Code where
  | op (p : Packet)
  | frame (off : Nat) (b : Byte)
  deriving DecidableEq, Repr

/-- Why an encoding names no instruction (R91, R111(d), U16; offsets: R71). -/
inductive Reject where
  /-- Select values 0xA to 0xF name no operation. -/
  | unusedSelect (word : Byte)
  /-- `readReg` with a register number above 7. -/
  | noSuchRegister (word : Byte)
  /-- `markPending` with a line identifier above 4. -/
  | noSuchLine (word : Byte)
  /-- A non-zero low nibble where 0 is required. -/
  | argumentNotZero (word : Byte)
  /-- Offsets 32 and above do not exist for the block (R71). -/
  | noSuchOffset (off : Nat)
  deriving DecidableEq, Repr

/-- The operation a command word names: `cmd[7:4]` is the select number of R90, `cmd[3:0]` the small argument (R91). -/
def decodeCommand (w : Byte) (o : Operands) : Except Reject Instr :=
  match (w >>> 4).toNat, (w &&& 0x0F#8).toNat with
  | 0x0, 0 => .ok (.construct o.dataReadyPin o.resetPin o.busAddress)
  | 0x1, 0 => .ok (.setGestureIrqPin o.lineIndex o.pin)
  | 0x2, 0 => .ok .beginOp
  | 0x3, 0 => .ok (.service o.frame)
  | 0x4, 0 => .ok .markClean
  | 0x5, 0 => .ok .readRegX
  | 0x5, 1 => .ok .readRegY
  | 0x5, 2 => .ok .readRegZ
  | 0x5, 3 => .ok .readRegSwipe
  | 0x5, 4 => .ok .readRegTap
  | 0x5, 5 => .ok .readRegGeneric
  | 0x5, 6 => .ok .readRegAirwheel
  | 0x5, 7 => .ok .readRegFramecount
  | 0x5, _ => .error (.noSuchRegister w)
  | 0x6, 0 => .ok (.eventCodeToLabel o.code)
  | 0x7, 0 => .ok .dump
  | 0x8, 0 => .ok .markPendingDR
  | 0x8, 1 => .ok .markPendingG0
  | 0x8, 2 => .ok .markPendingG1
  | 0x8, 3 => .ok .markPendingG2
  | 0x8, 4 => .ok .markPendingG3
  | 0x8, _ => .error (.noSuchLine w)
  | 0x9, 0 => .ok (.decodeFrame o.frame)
  | sel, _ => if sel < 0xA then .error (.argumentNotZero w) else .error (.unusedSelect w)

/-- The handler of a frame byte: selected by the offset alone, never by the byte's value (42_frame_decoder.md R175;
every byte value is legal at every offset, R109). -/
def decodeByte (off : Nat) (b : Byte) : Except Reject Instr :=
  match off with
  | 0 => .ok (.frame0 b)
  | 1 => .ok (.frame1 b)
  | 2 => .ok (.frame2 b)
  | 3 => .ok (.frame3 b)
  | 4 => .ok (.frame4 b)
  | 5 => .ok (.frame5 b)
  | 6 => .ok (.frame6 b)
  | 7 => .ok (.frame7 b)
  | 8 => .ok (.frame8 b)
  | 9 => .ok (.frame9 b)
  | 10 => .ok (.frame10 b)
  | 11 => .ok (.frame11 b)
  | 12 => .ok (.frame12 b)
  | 13 => .ok (.frame13 b)
  | 14 => .ok (.frame14 b)
  | 15 => .ok (.frame15 b)
  | 16 => .ok (.frame16 b)
  | 17 => .ok (.frame17 b)
  | 18 => .ok (.frame18 b)
  | 19 => .ok (.frame19 b)
  | 20 => .ok (.frame20 b)
  | 21 => .ok (.frame21 b)
  | 22 => .ok (.frame22 b)
  | 23 => .ok (.frame23 b)
  | 24 => .ok (.frame24 b)
  | 25 => .ok (.frame25 b)
  | 26 => .ok (.frame26 b)
  | 27 => .ok (.frame27 b)
  | 28 => .ok (.frame28 b)
  | 29 => .ok (.frame29 b)
  | 30 => .ok (.frame30 b)
  | 31 => .ok (.frame31 b)
  | _ => .error (.noSuchOffset off)

/-- The decoder, total on every encoding. -/
def decode : Code → Except Reject Instr
  | .op p => decodeCommand p.word p.beside
  | .frame off b => decodeByte off b

/-- The encoding of an instruction, from the tables of R90, R91 and R96; operands an operation does not take are
zero. -/
def encode : Instr → Code
  | .construct dr rst addr => .op ⟨0x00#8, { Operands.zero with dataReadyPin := dr, resetPin := rst, busAddress := addr }⟩
  | .setGestureIrqPin i p => .op ⟨0x10#8, { Operands.zero with lineIndex := i, pin := p }⟩
  | .beginOp => .op ⟨0x20#8, Operands.zero⟩
  | .service f => .op ⟨0x30#8, { Operands.zero with frame := f }⟩
  | .markClean => .op ⟨0x40#8, Operands.zero⟩
  | .readRegX => .op ⟨0x50#8, Operands.zero⟩
  | .readRegY => .op ⟨0x51#8, Operands.zero⟩
  | .readRegZ => .op ⟨0x52#8, Operands.zero⟩
  | .readRegSwipe => .op ⟨0x53#8, Operands.zero⟩
  | .readRegTap => .op ⟨0x54#8, Operands.zero⟩
  | .readRegGeneric => .op ⟨0x55#8, Operands.zero⟩
  | .readRegAirwheel => .op ⟨0x56#8, Operands.zero⟩
  | .readRegFramecount => .op ⟨0x57#8, Operands.zero⟩
  | .eventCodeToLabel c => .op ⟨0x60#8, { Operands.zero with code := c }⟩
  | .dump => .op ⟨0x70#8, Operands.zero⟩
  | .markPendingDR => .op ⟨0x80#8, Operands.zero⟩
  | .markPendingG0 => .op ⟨0x81#8, Operands.zero⟩
  | .markPendingG1 => .op ⟨0x82#8, Operands.zero⟩
  | .markPendingG2 => .op ⟨0x83#8, Operands.zero⟩
  | .markPendingG3 => .op ⟨0x84#8, Operands.zero⟩
  | .decodeFrame f => .op ⟨0x90#8, { Operands.zero with frame := f }⟩
  | .frame0 b => .frame 0 b
  | .frame1 b => .frame 1 b
  | .frame2 b => .frame 2 b
  | .frame3 b => .frame 3 b
  | .frame4 b => .frame 4 b
  | .frame5 b => .frame 5 b
  | .frame6 b => .frame 6 b
  | .frame7 b => .frame 7 b
  | .frame8 b => .frame 8 b
  | .frame9 b => .frame 9 b
  | .frame10 b => .frame 10 b
  | .frame11 b => .frame 11 b
  | .frame12 b => .frame 12 b
  | .frame13 b => .frame 13 b
  | .frame14 b => .frame 14 b
  | .frame15 b => .frame 15 b
  | .frame16 b => .frame 16 b
  | .frame17 b => .frame 17 b
  | .frame18 b => .frame 18 b
  | .frame19 b => .frame 19 b
  | .frame20 b => .frame 20 b
  | .frame21 b => .frame 21 b
  | .frame22 b => .frame 22 b
  | .frame23 b => .frame 23 b
  | .frame24 b => .frame 24 b
  | .frame25 b => .frame 25 b
  | .frame26 b => .frame 26 b
  | .frame27 b => .frame 27 b
  | .frame28 b => .frame 28 b
  | .frame29 b => .frame 29 b
  | .frame30 b => .frame 30 b
  | .frame31 b => .frame 31 b

/-- The instruction the decoder reads from the bits of a row of spec/opcode_table.json, numbered as the table numbers
them, every operand outside those bits zero. The table's two formats are two spaces, and a row's bits do not say which
space they are in: one byte is read as a command word first and, where it names no operation, under the FRAME rows' mask
0x1F, as the offset key of a frame byte of value 0; two bytes are an offset key and, above it, the frame byte (log 2).
The machine itself reads `decode`, which keeps the spaces apart. -/
def decodeTableWord (nbits w : Nat) : Option Instr :=
  if nbits ≤ 8 then
    if w < 256 then
      match decode (.op ⟨BitVec.ofNat 8 w, Operands.zero⟩) with
      | .ok i => some i
      | .error _ => (decode (.frame (w % 32) 0#8)).toOption
    else none
  else (decode (.frame (w % 256) (BitVec.ofNat 8 (w / 256)))).toOption

end Sys2Proof
end

