-- ==== Sys2Proof/Machine/State.lean ====
section
/-! DEFINITION. The state of the block (10_state.md R20), plain data, and the state after reset (R46). The fields below
the line "the model's own" are no registers of the block: they hold where agent SVC stands inside an operation, the
inputs the environment has chosen (R47), and what the block has handed to the outside. -/

namespace Sys2Proof.Machine

/-- The frame buffer as (offset, byte) cells (20_memory.md R60; canonical form: `Memory.wf`). -/
abbrev Memory := List Host.Cell

/-- `lastPosition`: three 32-bit two's-complement axis registers (10_state.md R26, D10). -/
structure Position where
  x : BitVec 32
  y : BitVec 32
  z : BitVec 32
  deriving DecidableEq, Repr

/-- The sentinel "invalid" value, -1 on every axis (R26). -/
def Position.invalid : Position := { x := -1, y := -1, z := -1 }

/-- The decoder transients (R36 to R41): they exist only during one `decodeFrame`. -/
structure Decode where
  /-- The frame offset counter, the block's program counter: the offset of the next byte (R36). -/
  off : Nat
  /-- The number of bytes, counted from offset 0, the loop intends to consume (R37). -/
  expected : Nat
  /-- Position-valid flag (R38). -/
  pv : Bool
  /-- Air-wheel-valid flag (R38). -/
  av : Bool
  /-- Offsets 4 and 5, "assembled but not acted upon" (R39). -/
  dataOutputMask : BitVec 16
  /-- Holding registers of the position bytes (R40). -/
  tx : BitVec 16
  ty : BitVec 16
  tz : BitVec 16
  /-- Recognized events of this decode (R41). -/
  events : Nat
  deriving DecidableEq, Repr

/-- Where agent SVC stands inside the operation it runs. Agent IRQ may take a step in every one of these places
(20_memory.md R73). -/
inductive Phase where
  /-- No operation in progress: the caller may call one. -/
  | idle
  /-- `service` under SELECT = chained, about to test the bit of `line` with a fresh read of `mask` (41_service.md R160). -/
  | testing (line : Line) (frame : Frame)
  /-- `service` has chosen `line`, its bit not yet cleared (R151). -/
  | selected (line : Line) (frame : Frame)
  /-- `service` has cleared bit 0 and is about to call `decodeFrame` (R153). -/
  | calling (frame : Frame)
  /-- Inside `decodeFrame`, called by `service` (42_frame_decoder.md R170). -/
  | decoding (d : Decode)
  /-- `decodeFrame` has returned `events` to `service`, the line not yet re-armed (R154). -/
  | rearm (events : Nat)
  deriving DecidableEq, Repr

/-- Which agent takes the next step (20_memory.md R73). -/
inductive Turn where
  /-- A line shows a falling edge; its callback is the operation of this command word (R113 `irq i`, R130). -/
  | irq (word : Byte)
  /-- Agent SVC moves. -/
  | svc
  deriving DecidableEq, Repr

/-- What an operation of agent SVC gives its caller (30_encoding.md R90). -/
inductive Result where
  /-- The operation has no result. -/
  | none
  | value (v : Int)
  | label (l : Label)
  | dump (c : DumpContent)
  deriving DecidableEq, Repr

/-- A call to a collaborator outside the block. -/
inductive ExternalCall where
  /-- `requestTransfer(address, maxBytes)` (20_memory.md R61). -/
  | requestTransfer (address : BusAddress) (maxBytes : Nat)
  /-- `registerEdgeCallback(pin, callback of line, edge=FALLING)` (43_state_ops.md R243). -/
  | registerEdgeCallback (pin : PinId) (line : Line)
  /-- The pulse on the sensor's reset pin (R243). -/
  | pulseReset (pin : PinId)
  deriving DecidableEq, Repr

/-- No fault stops the block: "the system never surfaces a hard failure to its caller" (60_exceptions.md R273). Its one
error, ConfigError, is a result and the machine goes on (R270). -/
inductive Fault where
  deriving DecidableEq, Repr

/-- The steps the model does not define, each refused by name. -/
inductive Refusal where
  /-- Raised by an arm of `exec` whose instruction has no meaning yet (none is left). Safe. -/
  | notModelled (mnemonic : String)
  /-- Raised by the fetch: the command word or offset names no instruction (R91, U16 `refuse`). Safe. -/
  | namesNoInstruction (why : Reject)
  /-- Raised by the fetch: the caller called an operation of agent IRQ, or a callback is not `markPending`
  (60_exceptions.md R288, U14 `refuse`). Safe. -/
  | wrongContext (word : Byte)
  /-- Raised by an operation of agent SVC while another is in progress: a second service thread (R292, U14 `refuse`).
  Safe: the fetch never does it. -/
  | secondServiceThread
  /-- Raised by `markPending` on a line with no callback: "the step does not exist" (40_marker_register.md R135).
  Safe: the fetch never does it. -/
  | lineNotEnabled (line : Line)
  /-- Raised by `setGestureIrqPin` with a valid index after `begin` (43_state_ops.md R241, U8 `refuse`). Safe. -/
  | gesturePinAfterBegin
  /-- Raised by a second `begin` (R244, U8 `refuse`). Safe. -/
  | secondBegin
  /-- Raised by `construct` once the one construction is past: it "happens once" (43_state_ops.md R239), there is "no
  re-construction" (10_state.md R45; 70_reset_and_hazards.md R311; log 8). Safe. -/
  | secondConstruct
  /-- Raised by `decodeFrame` called by the caller itself: it runs "only from the data-ready path of `service`" and is
  not on the public surface (42_frame_decoder.md R170; log 14). Safe. -/
  | decodeFrameOutsideService
  /-- Raised by a byte handler when no decode stands at its offset: the handler is selected by `off` alone
  (42_frame_decoder.md R175). Safe: the fetch never does it. -/
  | decoderNotAt (off : Nat)
  deriving DecidableEq, Repr

/-- The whole state. -/
structure State where
  /-- R21 -/
  busAddress : BusAddress
  /-- R22 -/
  dataReadyPin : PinId
  /-- R22 -/
  resetPin : PinId
  /-- R23: a pin identifier, or `none` for the marker NONE. -/
  gestureIrqPins : Vector (Option PinId) 4
  /-- `pendingInterruptMask` (R24, R25); read through `readMask`. -/
  mask : BitVec 8
  /-- R26, R27 -/
  lastPosition : Position
  /-- R28 -/
  lastSwipeCode : Byte
  /-- R29 -/
  lastTapCode : Byte
  /-- R30 -/
  lastGenericEventCode : Byte
  /-- R31, two's complement -/
  airWheelAccumulator : BitVec 16
  /-- R32, unsigned -/
  frameCount : BitVec 32
  /-- R33 -/
  ready : Bool
  /-- R34: bit `i` for line identifier `i`. -/
  lineEnabled : BitVec 5
  /-- R35 -/
  drLineMode : DrLineMode
  /-- The frame buffer of the transfer in progress (20_memory.md R60); empty when there is none. -/
  buf : Memory
  /-- The model's own: where agent SVC stands; holds the transients of R36 to R41 while they exist. -/
  phase : Phase
  /-- The model's own: the one construction is past, so that no `construct` may follow (10_state.md R45, log 8). -/
  constructionDone : Bool
  /-- The model's own: the open parameters (00_scope.md R10). -/
  params : Params
  /-- The model's own: which agent moves next, first turn first; agent SVC when the list is empty. -/
  turns : List Turn
  /-- The model's own: the operations the caller has still to call, first call first. -/
  program : List Packet
  /-- The model's own: the result of the last completed operation of agent SVC. -/
  result : Result
  /-- The model's own: the calls made to the collaborators, oldest first. -/
  issued : List ExternalCall
  deriving DecidableEq, Repr

/-- The state right after construction (10_state.md R46): the clean state, nothing pending, no line enabled, and the
three construction arguments at the values log 9 names. No operation has run, so the first one may be the `construct`
that gives those arguments (log 8). -/
def State.reset : State :=
  { busAddress := 0
    dataReadyPin := 0
    resetPin := 0
    gestureIrqPins := #v[none, none, none, none]
    mask := 0x00#8
    lastPosition := Position.invalid
    lastSwipeCode := 0x00#8
    lastTapCode := 0x00#8
    lastGenericEventCode := 0x00#8
    airWheelAccumulator := 0#16
    frameCount := 0#32
    ready := false
    lineEnabled := 0#5
    drLineMode := .sense
    buf := []
    phase := .idle
    constructionDone := false
    params := Config.params
    turns := []
    program := []
    result := .none
    issued := [] }

end Sys2Proof.Machine
end

