-- ==== Sys2Proof/Machine/Operands.lean ====
section
/-! DEFINITION. Operand assembly and the code formulas of 30_encoding.md section 3: the 16-bit fields, the event codes,
the air-wheel delta, the operands of the register and label tables. -/

namespace Sys2Proof.Machine

/-- A byte as the low half of a 16-bit field (R97; `tx <- b`, 42_frame_decoder.md R194). -/
def lowByte (b : Byte) : BitVec 16 := b.setWidth 16

/-- `v | (b << 8)`: the high byte joins the low one (R97, R194). -/
def joinHigh (v : BitVec 16) (b : Byte) : BitVec 16 := v ||| (b.setWidth 16 <<< 8)

/-- `le16(lo, hi) = lo + 256 × hi` (00_scope.md R12, 20_memory.md R66). -/
def le16 (lo hi : Byte) : BitVec 16 := joinHigh (lowByte lo) hi

/-- Swipe and generic code `trunc_8(1 << (v-1)) | 0x20`, the shift on unbounded integers (R100, D7). -/
def swipeCode (v : Byte) : Byte := BitVec.ofNat 8 (1 <<< (v.toNat - 1)) ||| 0x20#8

/-- Tap code of offset 14: `((v & 0b11100000) >> 5) | 0x40` (R101). -/
def tapCode (v : Byte) : Byte := ((v &&& 0xE0#8) >>> 5) ||| 0x40#8

/-- Tap code of offset 15: `((v & 0b0011) << 3) | 0x40` (R102). -/
def tapCodeCont (v : Byte) : Byte := ((v &&& 0x03#8) <<< 3) ||| 0x40#8

/-- Air-wheel delta `sext_8(v)` in the accumulator's width (R103). -/
def wheelDelta (v : Byte) : BitVec 16 := v.signExtend 16

/-- `wrap_16(accumulator + delta)` (42_frame_decoder.md R192, R205(f)). -/
def accumulate (acc : BitVec 16) (v : Byte) : BitVec 16 := acc + wheelDelta v

/-- A position axis from its 16-bit field: always 0 to 65535 (R196). -/
def axis (t : BitVec 16) : BitVec 32 := t.setWidth 32

/-- The position committed from the holding registers (R196). -/
def committed (tx ty tz : BitVec 16) : Position := { x := axis tx, y := axis ty, z := axis tz }

/-- `trunc_32(frameCount + 1)` (R199, R205(g)). -/
def nextFrameCount (n : BitVec 32) : BitVec 32 := n + 1#32

/-- The entry of `gestureIrqPins` a `lineIndex` names: one of 0, 1, 2, 3, or none (43_state_ops.md R240). -/
def gestureIndex (i : Int) : Option (Fin 4) :=
  if i = 0 then some 0
  else if i = 1 then some 1
  else if i = 2 then some 2
  else if i = 3 then some 3
  else none

/-- The line of gesture index `k`: line identifier `1 + k` (30_encoding.md R92). -/
def gestureLine : Fin 4 → Line
  | 0 => .gesture0
  | 1 => .gesture1
  | 2 => .gesture2
  | 3 => .gesture3

/-- `LABEL_TABLE` (R106): the nine known codes. The first and the seventh pair are the source's, the other seven are the
spec's completion from general knowledge (log 18). -/
def labelTable : List (Byte × Label) :=
  [ (0x22#8, .rightSwipe), (0x24#8, .leftSwipe), (0x28#8, .upSwipe), (0x30#8, .downSwipe),
    (0x41#8, .tapSouth), (0x42#8, .tapWest), (0x44#8, .tapNorth), (0x48#8, .tapEast), (0x50#8, .tapCenter) ]

/-- The label of a code by exact equality, the empty label where no row has it (R237). -/
def labelOf (code : Byte) : Label := (labelTable.lookup code).getD .empty

/-- The text of a label (R106). -/
def labelText : Label → String
  | .empty => ""
  | .rightSwipe => "Right Swipe"
  | .leftSwipe => "Left Swipe"
  | .upSwipe => "Up Swipe"
  | .downSwipe => "Down Swipe"
  | .tapSouth => "Tap South"
  | .tapWest => "Tap West"
  | .tapNorth => "Tap North"
  | .tapEast => "Tap East"
  | .tapCenter => "Tap Center"

/-- The label identifier of R106: 1 to 9, and 0 for the empty label. -/
def labelId : Label → Nat
  | .empty => 0
  | .rightSwipe => 1
  | .leftSwipe => 2
  | .upSwipe => 3
  | .downSwipe => 4
  | .tapSouth => 5
  | .tapWest => 6
  | .tapNorth => 7
  | .tapEast => 8
  | .tapCenter => 9

/-- The text of a result that is text: a label's, or the dump's in the layout that is OPEN (R238, D24). -/
def resultText : Result → Option String
  | .label l => some (labelText l)
  | .dump c => some (Config.dumpLayout c)
  | .none => none
  | .value _ => none

end Sys2Proof.Machine
end

