-- ==== Sys2Proof/Machine/Flags.lean ====
section
/-! DEFINITION. The bits the block tests and sets: the pending bits of `mask` (10_state.md R24), the enable bits of
`lineEnabled` (R34), the validity flags of offset 7 (30_encoding.md R98), and the conditions under which a byte fires
(R100 to R102, R110). -/

namespace Sys2Proof.Machine

/-- The line identifier, which is the line's bit number in `mask` and in `lineEnabled` (R24, R92). -/
def lineBit : Line → Nat
  | .dataReady => 0
  | .gesture0 => 1
  | .gesture1 => 2
  | .gesture2 => 3
  | .gesture3 => 4

/-- `1 << i`, as a mask byte. -/
def lineFlag (l : Line) : BitVec 8 := 1#8 <<< lineBit l

/-- What a whole-byte read of `mask` gives: bits 7 to 5 read as 0 (00_scope.md R10 MASK_WIDTH, R24). -/
def readableMask (m : BitVec 8) : BitVec 8 := m &&& 0x1F#8

/-- Bit `i` of a mask value. -/
def pendingIn (m : BitVec 8) (l : Line) : Bool := m.getLsbD (lineBit l)

/-- `mask | (1 << i)` (40_marker_register.md R130). -/
def maskSet (m : BitVec 8) (l : Line) : BitVec 8 := m ||| lineFlag l

/-- `mask & ~_8 (1 << i)` (41_service.md R151). -/
def maskClear (m : BitVec 8) (l : Line) : BitVec 8 := m &&& ~~~ (lineFlag l)

/-- The highest-priority set bit of a snapshot: data-ready, then gesture 0 to 3 (R151, 60_exceptions.md R281). -/
def firstPending (m : BitVec 8) : Option Line :=
  if pendingIn m .dataReady then some .dataReady
  else if pendingIn m .gesture0 then some .gesture0
  else if pendingIn m .gesture1 then some .gesture1
  else if pendingIn m .gesture2 then some .gesture2
  else if pendingIn m .gesture3 then some .gesture3
  else none

/-- The line tested after `l` in priority order (R281). -/
def nextLine : Line → Option Line
  | .dataReady => some .gesture0
  | .gesture0 => some .gesture1
  | .gesture1 => some .gesture2
  | .gesture2 => some .gesture3
  | .gesture3 => none

/-- `lineEnabled[i]` (10_state.md R34). -/
def enabledIn (e : BitVec 5) (l : Line) : Bool := e.getLsbD (lineBit l)

/-- `lineEnabled[i] <- 1`. -/
def enable (e : BitVec 5) (l : Line) : BitVec 5 := e ||| (1#5 <<< lineBit l)

/-- `begin`'s enables: line 0, and line `1 + k` exactly when gesture pin `k` is assigned (43_state_ops.md R243). -/
def enableAssigned (pins : Vector (Option PinId) 4) (e : BitVec 5) : BitVec 5 :=
  ([0, 1, 2, 3] : List (Fin 4)).foldl
    (fun e k => if pins[k.val].isSome then enable e (gestureLine k) else e) (enable e .dataReady)

/-- Position-valid flag: bit 0 of the byte at offset 7 (R98, R182). -/
def positionValid (b : Byte) : Bool := b.getLsbD 0

/-- Air-wheel-valid flag: bit 1 of the byte at offset 7 (R98, R182). -/
def airWheelValid (b : Byte) : Bool := b.getLsbD 1

/-- Offsets 1 and 10 fire when `b > 1` (R100, R110). -/
def codeFires (b : Byte) : Bool := 1 < b.toNat

/-- Offset 14 fires when `b > 0b11111` (R101). -/
def tapFires (b : Byte) : Bool := 0x1F < b.toNat

/-- Offset 15 fires when `b > 0` (R102). -/
def tapContFires (b : Byte) : Bool := 0 < b.toNat

/-- `expected` after offset 0, under either reading (42_frame_decoder.md R176, R206). -/
def declareLength (r : LenReading) (expected : Nat) (b : Byte) : Nat :=
  if expected < b.toNat then
    match r with
    | .total => b.toNat
    | .literalMinusOne => b.toNat - 1
  else expected

end Sys2Proof.Machine
end

