-- ==== Sys2Proof/Machine/Ops.lean ====
section
/-! DEFINITION. The shared operations: the frame buffer (20_memory.md), the accesses to `mask` and `drLineMode` that are
one step each (R72), the one error (60_exceptions.md R270), a line's firing (R284), and the shapes every meaning is
written in. -/

namespace Sys2Proof.Machine

/-! ### The frame buffer -/

/-- What an offset with no cell reads as: no byte was delivered there (20_memory.md R62, log 21). -/
def Memory.unlisted : Option Byte := none

/-- `MemRead(off, 1)`: the byte at an offset, none outside the delivered bytes (00_scope.md R14, R63). -/
def Memory.read (m : Memory) (off : Nat) : Option Byte :=
  match m.lookup off with
  | some b => some b
  | none => Memory.unlisted

/-- Bytes laid out at rising offsets from `k`. -/
def Memory.ofBytesAt (k : Nat) : List Byte → Memory
  | [] => []
  | b :: bs => (k, b) :: Memory.ofBytesAt (k + 1) bs

/-- The buffer `buf[0] .. buf[n-1]` of the bytes delivered (R60). -/
def Memory.ofBytes (bs : List Byte) : Memory := Memory.ofBytesAt 0 bs

/-- The canonical form: the offsets are exactly 0 .. n-1, in rising order (R60; no cell reads as an unlisted offset does,
since that reads as no byte). -/
abbrev Memory.wf (m : Memory) : Prop := m.map Prod.fst = List.range m.length

/-- What TRANSPORT delivers for `requestTransfer(address, maxBytes)`: at most `maxBytes` bytes, a fresh buffer
(R61, R64, R65). -/
def transfer (maxBytes : Nat) (delivered : Frame) : Memory := Memory.ofBytes (delivered.take maxBytes)

/-! ### The marker register and the data-ready line -/

/-- The whole-byte read of `mask` (R72 (b)). -/
def readMask (s : State) : BitVec 8 := readableMask s.mask

/-- `atomic: mask <- mask | (1 << i)` (R72 (a), 40_marker_register.md R130). -/
def setPending (l : Line) (s : State) : State := { s with mask := maskSet s.mask l }

/-- `atomic: mask <- mask & ~_8 (1 << i)` (R72 (c), 41_service.md R151). -/
def clearPending (l : Line) (s : State) : State := { s with mask := maskClear s.mask l }

/-- `drLineMode <- m` (10_state.md R35). -/
def setDrLine (m : DrLineMode) (s : State) : State := { s with drLineMode := m }

/-! ### Where agent SVC stands, and what its caller gets -/

/-- Agent SVC goes on at `p`. -/
def goTo (p : Phase) (s : State) : State := { s with phase := p }

/-- `return r`: the operation ends with result `r` (00_scope.md R16). -/
def returns (r : Result) (s : State) : State := { s with phase := .idle, result := r }

/-- A call to a collaborator outside the block. -/
def issue (c : ExternalCall) (s : State) : State := { s with issued := s.issued ++ [c] }

/-! ### The error -/

/-- `ERR_RESULT` (R10, D17). -/
def errResult : Int := -1

/-- `raise ConfigError(lineIndex)`: no state changes and the operation returns ERR_RESULT; nothing is recorded, not even
the index (00_scope.md R16, 60_exceptions.md R270). This is the only error the block takes. -/
def raiseConfigError (_lineIndex : Int) (s : State) : State := returns (.value errResult) s

/-! ### A line's firing -/

/-- Whether an edge on a line runs its callback: it is registered (40_marker_register.md R135), and, under the optional
assumption ENV_NO_DR_WHILE_LOW, it is not the data-ready line held low (70_reset_and_hazards.md R324). Entering the
callback saves nothing and changes no mode, and leaving it restores nothing (60_exceptions.md R284, R285). -/
def lineFires (s : State) (l : Line) : Bool :=
  enabledIn s.lineEnabled l &&
    !(s.params.envNoDrWhileLow && l == .dataReady && s.drLineMode == .holdLow)

/-- The part common to the five `markPending` operations (R130), with what the line adds to it: possible only where the
line's callback is registered (R135). -/
def markLine (l : Line) (also : State → State) (s : State) : Host.Outcome State Fault Refusal :=
  if enabledIn s.lineEnabled l then .next (also (setPending l s)) else .refused (.lineNotEnabled l)

/-! ### The shapes of the other meanings -/

/-- Once an operation runs, the one construction is past (10_state.md R45, log 8). -/
def pastConstruction (s : State) : State := { s with constructionDone := true }

/-- An operation of agent SVC: the thread runs one at a time (R292, U14). -/
def svcOp (s : State) (k : State → Host.Outcome State Fault Refusal) : Host.Outcome State Fault Refusal :=
  if s.phase = .idle then k (pastConstruction s) else .refused .secondServiceThread

/-- An operation of agent SVC that only answers a value of the state (43_state_ops.md section 2). -/
def answer (r : State → Result) (s : State) : Host.Outcome State Fault Refusal :=
  svcOp s fun s => .next (returns (r s) s)

/-- The handler of the byte at offset `k`: `write` is what it does to the registers, `change` what it does to the
transients, both from the transients as they stood; then `off <- off + 1` (42_frame_decoder.md R171, R175). -/
def handleByte (k : Nat) (write : Decode → State → State) (change : Decode → Decode) (s : State) :
    Host.Outcome State Fault Refusal :=
  match s.phase with
  | .decoding d =>
    if d.off = k then
      .next (goTo (.decoding { change d with off := d.off + 1 }) (write d s))
    else .refused (.decoderNotAt k)
  | _ => .refused (.decoderNotAt k)

/-- A handler that consumes its byte and changes nothing else (30_encoding.md R108). -/
def ignoreByte (k : Nat) (s : State) : Host.Outcome State Fault Refusal :=
  handleByte k (fun _ s => s) (fun d => d) s

/-- `events <- events + 1` where the handler fires (R172). -/
def countEvent (fires : Bool) (d : Decode) : Decode := if fires then { d with events := d.events + 1 } else d

end Sys2Proof.Machine
end

