-- ==== Sys2Proof/Machine/Accessors.lean ====
section
/-! DEFINITION. The accessors `readReg`, the pure function `eventCodeToLabel` and `dump` (43_state_ops.md sections 2 to
4). Each is a pure read: the register's whole value as a number, and no state of the block changes. -/

namespace Sys2Proof.Machine

/-- Register 0: `x`, -1 or 0 to 65535 (R231). -/
def execReadRegX (s : State) : Host.Outcome State Fault Refusal :=
  answer (fun s => .value s.lastPosition.x.toInt) s

/-- Register 1: `y` (R231). -/
def execReadRegY (s : State) : Host.Outcome State Fault Refusal :=
  answer (fun s => .value s.lastPosition.y.toInt) s

/-- Register 2: `z` (R231). -/
def execReadRegZ (s : State) : Host.Outcome State Fault Refusal :=
  answer (fun s => .value s.lastPosition.z.toInt) s

/-- Register 3: `lastSwipeCode` (R232). -/
def execReadRegSwipe (s : State) : Host.Outcome State Fault Refusal :=
  answer (fun s => .value s.lastSwipeCode.toNat) s

/-- Register 4: `lastTapCode` (R233). -/
def execReadRegTap (s : State) : Host.Outcome State Fault Refusal :=
  answer (fun s => .value s.lastTapCode.toNat) s

/-- Register 5: `lastGenericEventCode` (R234). -/
def execReadRegGeneric (s : State) : Host.Outcome State Fault Refusal :=
  answer (fun s => .value s.lastGenericEventCode.toNat) s

/-- Register 6: `airWheelAccumulator` as a signed integer (R235). -/
def execReadRegAirwheel (s : State) : Host.Outcome State Fault Refusal :=
  answer (fun s => .value s.airWheelAccumulator.toInt) s

/-- Register 7: `frameCount` as an unsigned integer (R236). -/
def execReadRegFramecount (s : State) : Host.Outcome State Fault Refusal :=
  answer (fun s => .value s.frameCount.toNat) s

/-- `eventCodeToLabel(code)`: exact equality against `LABEL_TABLE`, reading no state (R237). -/
def execEventCodeToLabel (code : Byte) (s : State) : Host.Outcome State Fault Refusal :=
  answer (fun _ => .label (labelOf code)) s

/-- The values `dump` renders: a composition of the accessors and `eventCodeToLabel` (R238, R114). -/
def dumpContent (s : State) : DumpContent :=
  { x := s.lastPosition.x.toInt
    y := s.lastPosition.y.toInt
    z := s.lastPosition.z.toInt
    swipeLabel := labelOf s.lastSwipeCode
    tapLabel := labelOf s.lastTapCode
    airWheel := s.airWheelAccumulator.toInt }

/-- `dump()`: the tuple of R238; its text is `resultText`, in the OPEN layout (D24). -/
def execDump (s : State) : Host.Outcome State Fault Refusal :=
  answer (fun s => .dump (dumpContent s)) s

end Sys2Proof.Machine
end

