-- ==== Sys2Proof/Machine/FrameDecoder.lean ====
section
/-! DEFINITION. `decodeFrame` and the 32 byte handlers (42_frame_decoder.md). The start of the decode is the
instruction's own step; each byte is then one step, the instruction that the offset selects (R171, R175), and the end of
the loop is one more (R199). -/

namespace Sys2Proof.Machine

/-- The start values of the transients, the same at every call (R174). -/
def startDecode (p : Params) : Decode :=
  { off := 0
    expected := p.initExpected
    pv := false
    av := false
    dataOutputMask := 0#16
    tx := 0#16
    ty := 0#16
    tz := 0#16
    events := 0 }

/-- The one `requestTransfer(busAddress, 32)` of a decode, and the start of its loop (R170, R61, R174). -/
def beginDecode (f : Frame) (s : State) : State :=
  goTo (.decoding (startDecode s.params))
    (issue (.requestTransfer s.busAddress maxRequest) { s with buf := transfer maxRequest f })

/-- `decodeFrame()`: runs where `service` calls it on the data-ready path, and only there; it is no operation of the
caller (R170, log 14). -/
def execDecodeFrame (f : Frame) (s : State) : Host.Outcome State Fault Refusal :=
  match s.phase with
  | .calling _ => .next (beginDecode f s)
  | _ => svcOp s fun _ => .refused .decodeFrameOutsideService

/-- The byte the loop consumes next, none where the loop ends: `off < expected`, `off < 32` and a byte is available
(R171, 20_memory.md R62, R64). -/
def nextByte (d : Decode) (s : State) : Option Byte :=
  if d.off < d.expected && d.off < maxRequest then Memory.read s.buf d.off else none

/-- The end of a decode: `frameCount` advances, the buffer and the transients are gone, and `service` gets `events`
(R199, R65, R174). -/
def finishDecode (d : Decode) (s : State) : State :=
  goTo (.rearm d.events) { s with frameCount := nextFrameCount s.frameCount, buf := [] }

/-- Offset 0, declared frame length: the expected byte count may grow (R176, R206). -/
def execFrame0 (b : Byte) (s : State) : Host.Outcome State Fault Refusal :=
  handleByte 0
    (fun _ s => s)
    (fun d => { d with expected := declareLength s.params.lenReading d.expected b }) s

/-- Offset 1, flag byte: the generic event code; no event is counted (R177). -/
def execFrame1 (b : Byte) (s : State) : Host.Outcome State Fault Refusal :=
  handleByte 1
    (fun _ s => if codeFires b then { s with lastGenericEventCode := swipeCode b } else s)
    (fun d => d) s

/-- Offset 2, sequence/ID: ignored (R178, R108). -/
def execFrame2 (_b : Byte) (s : State) : Host.Outcome State Fault Refusal :=
  ignoreByte 2 s

/-- Offset 3, sequence/ID: ignored (R178, R108). -/
def execFrame3 (_b : Byte) (s : State) : Host.Outcome State Fault Refusal :=
  ignoreByte 3 s

/-- Offset 4, data-output mask, low byte (R179). -/
def execFrame4 (b : Byte) (s : State) : Host.Outcome State Fault Refusal :=
  handleByte 4
    (fun _ s => s)
    (fun d => { d with dataOutputMask := lowByte b }) s

/-- Offset 5, data-output mask, high byte; nothing reads the value (R180). -/
def execFrame5 (b : Byte) (s : State) : Host.Outcome State Fault Refusal :=
  handleByte 5
    (fun _ s => s)
    (fun d => { d with dataOutputMask := joinHigh d.dataOutputMask b }) s

/-- Offset 6, timestamp: ignored (R181, R108). -/
def execFrame6 (_b : Byte) (s : State) : Host.Outcome State Fault Refusal :=
  ignoreByte 6 s

/-- Offset 7, system-info flags; bits 2 to 7 are ignored (R182, R98). -/
def execFrame7 (b : Byte) (s : State) : Host.Outcome State Fault Refusal :=
  handleByte 7
    (fun _ s => s)
    (fun d => { d with pv := positionValid b, av := airWheelValid b }) s

/-- Offset 8, DSP info: ignored (R183, R108). -/
def execFrame8 (_b : Byte) (s : State) : Host.Outcome State Fault Refusal :=
  ignoreByte 8 s

/-- Offset 9, DSP info: ignored (R183, R108). -/
def execFrame9 (_b : Byte) (s : State) : Host.Outcome State Fault Refusal :=
  ignoreByte 9 s

/-- Offset 10, gesture info: the swipe code, one event (R184). -/
def execFrame10 (b : Byte) (s : State) : Host.Outcome State Fault Refusal :=
  handleByte 10
    (fun _ s => if codeFires b then { s with lastSwipeCode := swipeCode b } else s)
    (countEvent (codeFires b)) s

/-- Offset 11, reserved: ignored (R185, R108). -/
def execFrame11 (_b : Byte) (s : State) : Host.Outcome State Fault Refusal :=
  ignoreByte 11 s

/-- Offset 12, reserved: ignored (R185, R108). -/
def execFrame12 (_b : Byte) (s : State) : Host.Outcome State Fault Refusal :=
  ignoreByte 12 s

/-- Offset 13, reserved: ignored (R185, R108). -/
def execFrame13 (_b : Byte) (s : State) : Host.Outcome State Fault Refusal :=
  ignoreByte 13 s

/-- Offset 14, touch info: the tap code, one event (R188). -/
def execFrame14 (b : Byte) (s : State) : Host.Outcome State Fault Refusal :=
  handleByte 14
    (fun _ s => if tapFires b then { s with lastTapCode := tapCode b } else s)
    (countEvent (tapFires b)) s

/-- Offset 15, touch info continued: overwrites the code of offset 14, one event more (R189, R191). -/
def execFrame15 (b : Byte) (s : State) : Host.Outcome State Fault Refusal :=
  handleByte 15
    (fun _ s => if tapContFires b then { s with lastTapCode := tapCodeCont b } else s)
    (countEvent (tapContFires b)) s

/-- Offset 16, reserved: ignored (R190, R108). -/
def execFrame16 (_b : Byte) (s : State) : Host.Outcome State Fault Refusal :=
  ignoreByte 16 s

/-- Offset 17, reserved: ignored (R190, R108). -/
def execFrame17 (_b : Byte) (s : State) : Host.Outcome State Fault Refusal :=
  ignoreByte 17 s

/-- Offset 18, air-wheel delta: accumulates when the air-wheel-valid flag is set, one event (R192). -/
def execFrame18 (b : Byte) (s : State) : Host.Outcome State Fault Refusal :=
  handleByte 18
    (fun d s => if d.av then { s with airWheelAccumulator := accumulate s.airWheelAccumulator b } else s)
    (fun d => countEvent d.av d) s

/-- Offset 19, air-wheel continued: ignored (R193, R108). -/
def execFrame19 (_b : Byte) (s : State) : Host.Outcome State Fault Refusal :=
  ignoreByte 19 s

/-- Offset 20, position X, low byte (R194). -/
def execFrame20 (b : Byte) (s : State) : Host.Outcome State Fault Refusal :=
  handleByte 20
    (fun _ s => s)
    (fun d => { d with tx := lowByte b }) s

/-- Offset 21, position X, high byte (R194). -/
def execFrame21 (b : Byte) (s : State) : Host.Outcome State Fault Refusal :=
  handleByte 21
    (fun _ s => s)
    (fun d => { d with tx := joinHigh d.tx b }) s

/-- Offset 22, position Y, low byte (R195). -/
def execFrame22 (b : Byte) (s : State) : Host.Outcome State Fault Refusal :=
  handleByte 22
    (fun _ s => s)
    (fun d => { d with ty := lowByte b }) s

/-- Offset 23, position Y, high byte (R195). -/
def execFrame23 (b : Byte) (s : State) : Host.Outcome State Fault Refusal :=
  handleByte 23
    (fun _ s => s)
    (fun d => { d with ty := joinHigh d.ty b }) s

/-- Offset 24, position Z, low byte (R196). -/
def execFrame24 (b : Byte) (s : State) : Host.Outcome State Fault Refusal :=
  handleByte 24
    (fun _ s => s)
    (fun d => { d with tz := lowByte b }) s

/-- Offset 25, position Z, high byte, and the commit of all three axes when the position-valid flag is set (R196, R27). -/
def execFrame25 (b : Byte) (s : State) : Host.Outcome State Fault Refusal :=
  handleByte 25
    (fun d s => if d.pv then { s with lastPosition := committed d.tx d.ty (joinHigh d.tz b) } else s)
    (fun d => { d with tz := joinHigh d.tz b }) s

/-- Offset 26, noise power: ignored (R197, R108). -/
def execFrame26 (_b : Byte) (s : State) : Host.Outcome State Fault Refusal :=
  ignoreByte 26 s

/-- Offset 27, noise power: ignored (R197, R108). -/
def execFrame27 (_b : Byte) (s : State) : Host.Outcome State Fault Refusal :=
  ignoreByte 27 s

/-- Offset 28, noise power: ignored (R197, R108). -/
def execFrame28 (_b : Byte) (s : State) : Host.Outcome State Fault Refusal :=
  ignoreByte 28 s

/-- Offset 29, noise power: ignored (R197, R108). -/
def execFrame29 (_b : Byte) (s : State) : Host.Outcome State Fault Refusal :=
  ignoreByte 29 s

/-- Offset 30, unspecified trailer: ignored (R198, R108). -/
def execFrame30 (_b : Byte) (s : State) : Host.Outcome State Fault Refusal :=
  ignoreByte 30 s

/-- Offset 31, unspecified trailer: ignored (R198, R108). -/
def execFrame31 (_b : Byte) (s : State) : Host.Outcome State Fault Refusal :=
  ignoreByte 31 s

end Sys2Proof.Machine
end

