-- ==== Sys2Proof/Machine/Lifecycle.lean ====
section
/-! DEFINITION. `construct`, `setGestureIrqPin`, `begin` and `markClean` (43_state_ops.md sections 1 and 5). -/

namespace Sys2Proof.Machine

/-- The block after construction: its three arguments, and every other element of the block as 10_state.md R46 says. The
inputs, the parameters and the record of collaborator calls are no elements of the block and stay. -/
def constructed (dr rst : PinId) (addr : BusAddress) (s : State) : State :=
  { State.reset with
    busAddress := addr
    dataReadyPin := dr
    resetPin := rst
    constructionDone := true
    params := s.params
    turns := s.turns
    program := s.program
    issued := s.issued }

/-- `construct(dataReadyPin, resetPin, busAddress)`: the block's reset (R239, 70_reset_and_hazards.md R310). It happens
once, and before every other operation: "no re-construction" (10_state.md R45), "No operation returns the block to the
reset state" (70_reset_and_hazards.md R311; log 8). -/
def execConstruct (dr rst : PinId) (addr : BusAddress) (s : State) : Host.Outcome State Fault Refusal :=
  svcOp s fun u => if s.constructionDone then .refused .secondConstruct else .next (constructed dr rst addr u)

/-- `setGestureIrqPin(lineIndex, pin)`: the index check comes first (R240, R241). -/
def execSetGestureIrqPin (lineIndex : Int) (pin : PinId) (s : State) : Host.Outcome State Fault Refusal :=
  svcOp s fun s =>
    match gestureIndex lineIndex with
    | none => .next (raiseConfigError lineIndex s)
    | some k =>
      if s.ready then .refused .gesturePinAfterBegin
      else .next (returns (.value 0) { s with gestureIrqPins := s.gestureIrqPins.set k.val (some pin) })

/-- The callbacks `begin` registers: data-ready, then each gesture line with a pin (R243). -/
def callbacks (s : State) : List ExternalCall :=
  .registerEdgeCallback s.dataReadyPin .dataReady ::
    ([0, 1, 2, 3] : List (Fin 4)).filterMap fun k =>
      s.gestureIrqPins[k.val].map fun p => .registerEdgeCallback p (gestureLine k)

/-- What `begin` does to the block, and the calls it makes outside (R243). -/
def begun (s : State) : State :=
  { s with
    drLineMode := .sense
    lineEnabled := enableAssigned s.gestureIrqPins s.lineEnabled
    ready := true
    issued := s.issued ++ callbacks s ++ [.pulseReset s.resetPin] }

/-- `begin()` (R243); a second one is refused (R244). -/
def execBegin (s : State) : Host.Outcome State Fault Refusal :=
  svcOp s fun s => if s.ready then .refused .secondBegin else .next (returns .none (begun s))

/-- The five registers `markClean` resets (R230). -/
def cleaned (s : State) : State :=
  { s with
    lastTapCode := 0x00#8
    lastSwipeCode := 0x00#8
    lastGenericEventCode := 0x00#8
    lastPosition := Position.invalid
    airWheelAccumulator := 0#16 }

/-- `markClean()` (R230). -/
def execMarkClean (s : State) : Host.Outcome State Fault Refusal :=
  svcOp s fun s => .next (returns .none (cleaned s))

end Sys2Proof.Machine
end

