-- ==== Sys2Proof/Machine/Marker.lean ====
section
/-! DEFINITION. `markPending` for the five lines (40_marker_register.md). Each is one indivisible step of agent IRQ,
possible wherever agent SVC stands (R133), and touches `mask` and, for line 0, `drLineMode`, and nothing else (R134). -/

namespace Sys2Proof.Machine

/-- `markPending(0)`: sets bit 0, then acknowledges the sensor by holding the line low (R131). -/
def execMarkPendingDR (s : State) : Host.Outcome State Fault Refusal :=
  markLine .dataReady (setDrLine .holdLow) s

/-- `markPending(1)`: sets bit 1 (R132). -/
def execMarkPendingG0 (s : State) : Host.Outcome State Fault Refusal :=
  markLine .gesture0 id s

/-- `markPending(2)`: sets bit 2 (R132). -/
def execMarkPendingG1 (s : State) : Host.Outcome State Fault Refusal :=
  markLine .gesture1 id s

/-- `markPending(3)`: sets bit 3 (R132). -/
def execMarkPendingG2 (s : State) : Host.Outcome State Fault Refusal :=
  markLine .gesture2 id s

/-- `markPending(4)`: sets bit 4 (R132). -/
def execMarkPendingG3 (s : State) : Host.Outcome State Fault Refusal :=
  markLine .gesture3 id s

end Sys2Proof.Machine
end

