-- ==== Sys2Proof/Machine/Service.lean ====
section
/-! DEFINITION. `service` (41_service.md). The call is a sequence of steps of agent SVC between which agent IRQ may run
(20_memory.md R73): the read of `mask` and the choice of a bit (the instruction's own step), the clear, the call of
`decodeFrame`, and the re-arm. -/

namespace Sys2Proof.Machine

/-- The choice of `service` under SELECT = snapshot, from one read of `mask` (R151). -/
def chooseFrom (m : BitVec 8) (f : Frame) (s : State) : State :=
  match firstPending m with
  | none => returns (.value 0) s
  | some l => goTo (.selected l f) s

/-- `service()`: reads `mask`; with no bit set it returns 0 and does nothing else (R152). Otherwise it chooses its bit:
from that one read (R151), or, under SELECT = chained, by testing the bits one by one (R160, log 12). -/
def execService (f : Frame) (s : State) : Host.Outcome State Fault Refusal :=
  svcOp s fun s =>
    if readMask s = 0 then .next (returns (.value 0) s)
    else
      match s.params.select with
      | .snapshot => .next (chooseFrom (readMask s) f s)
      | .chained => .next (goTo (.testing .dataReady f) s)

/-- SELECT = chained: one fresh read of `mask`, testing the bit of `l` (R160). -/
def serviceTest (l : Line) (f : Frame) (s : State) : State :=
  if pendingIn (readMask s) l then goTo (.selected l f) s
  else
    match nextLine l with
    | some l' => goTo (.testing l' f) s
    | none => returns (.value 0) s

/-- The clear of the chosen bit. On the data-ready path the decode follows (R153); on a gesture path this ends the call
with result 1 (R156). -/
def serviceClear (l : Line) (f : Frame) (s : State) : State :=
  match l with
  | .dataReady => goTo (.calling f) (clearPending l s)
  | .gesture0 | .gesture1 | .gesture2 | .gesture3 => returns (.value 1) (clearPending l s)

/-- The result of the data-ready path: 1 if the decoder reports any recognized event, else 0 (R155). -/
def serviceResult (events : Nat) : Int := if 0 < events then 1 else 0

/-- The re-arm, after `decodeFrame` has returned `events`, and the end of the call (R154, R155). -/
def serviceRearm (events : Nat) (s : State) : State :=
  returns (.value (serviceResult events)) (setDrLine .sense s)

end Sys2Proof.Machine
end

