-- ==== Sys2Proof/Machine/Dispatch.lean ====
section
/-! DEFINITION. One arm per instruction, each one call of its meaning. -/

namespace Sys2Proof.Machine

def exec (i : Instr) (s : State) : Host.Outcome State Fault Refusal :=
  match i with
  | .construct dr rst addr => Sys2Proof.Machine.execConstruct dr rst addr s
  | .setGestureIrqPin lineIndex pin => Sys2Proof.Machine.execSetGestureIrqPin lineIndex pin s
  | .beginOp => Sys2Proof.Machine.execBegin s
  | .service f => Sys2Proof.Machine.execService f s
  | .markClean => Sys2Proof.Machine.execMarkClean s
  | .readRegX => Sys2Proof.Machine.execReadRegX s
  | .readRegY => Sys2Proof.Machine.execReadRegY s
  | .readRegZ => Sys2Proof.Machine.execReadRegZ s
  | .readRegSwipe => Sys2Proof.Machine.execReadRegSwipe s
  | .readRegTap => Sys2Proof.Machine.execReadRegTap s
  | .readRegGeneric => Sys2Proof.Machine.execReadRegGeneric s
  | .readRegAirwheel => Sys2Proof.Machine.execReadRegAirwheel s
  | .readRegFramecount => Sys2Proof.Machine.execReadRegFramecount s
  | .eventCodeToLabel code => Sys2Proof.Machine.execEventCodeToLabel code s
  | .dump => Sys2Proof.Machine.execDump s
  | .markPendingDR => Sys2Proof.Machine.execMarkPendingDR s
  | .markPendingG0 => Sys2Proof.Machine.execMarkPendingG0 s
  | .markPendingG1 => Sys2Proof.Machine.execMarkPendingG1 s
  | .markPendingG2 => Sys2Proof.Machine.execMarkPendingG2 s
  | .markPendingG3 => Sys2Proof.Machine.execMarkPendingG3 s
  | .decodeFrame f => Sys2Proof.Machine.execDecodeFrame f s
  | .frame0 b => Sys2Proof.Machine.execFrame0 b s
  | .frame1 b => Sys2Proof.Machine.execFrame1 b s
  | .frame2 b => Sys2Proof.Machine.execFrame2 b s
  | .frame3 b => Sys2Proof.Machine.execFrame3 b s
  | .frame4 b => Sys2Proof.Machine.execFrame4 b s
  | .frame5 b => Sys2Proof.Machine.execFrame5 b s
  | .frame6 b => Sys2Proof.Machine.execFrame6 b s
  | .frame7 b => Sys2Proof.Machine.execFrame7 b s
  | .frame8 b => Sys2Proof.Machine.execFrame8 b s
  | .frame9 b => Sys2Proof.Machine.execFrame9 b s
  | .frame10 b => Sys2Proof.Machine.execFrame10 b s
  | .frame11 b => Sys2Proof.Machine.execFrame11 b s
  | .frame12 b => Sys2Proof.Machine.execFrame12 b s
  | .frame13 b => Sys2Proof.Machine.execFrame13 b s
  | .frame14 b => Sys2Proof.Machine.execFrame14 b s
  | .frame15 b => Sys2Proof.Machine.execFrame15 b s
  | .frame16 b => Sys2Proof.Machine.execFrame16 b s
  | .frame17 b => Sys2Proof.Machine.execFrame17 b s
  | .frame18 b => Sys2Proof.Machine.execFrame18 b s
  | .frame19 b => Sys2Proof.Machine.execFrame19 b s
  | .frame20 b => Sys2Proof.Machine.execFrame20 b s
  | .frame21 b => Sys2Proof.Machine.execFrame21 b s
  | .frame22 b => Sys2Proof.Machine.execFrame22 b s
  | .frame23 b => Sys2Proof.Machine.execFrame23 b s
  | .frame24 b => Sys2Proof.Machine.execFrame24 b s
  | .frame25 b => Sys2Proof.Machine.execFrame25 b s
  | .frame26 b => Sys2Proof.Machine.execFrame26 b s
  | .frame27 b => Sys2Proof.Machine.execFrame27 b s
  | .frame28 b => Sys2Proof.Machine.execFrame28 b s
  | .frame29 b => Sys2Proof.Machine.execFrame29 b s
  | .frame30 b => Sys2Proof.Machine.execFrame30 b s
  | .frame31 b => Sys2Proof.Machine.execFrame31 b s

end Sys2Proof.Machine
end

