-- ==== Sys2Proof/Machine/Fetch.lean ====
section
/-! DEFINITION. What the machine does next (20_memory.md R73): an instruction agent IRQ or agent SVC runs, a step of
agent SVC inside an operation that no row of the opcode table stands for, or nothing the model defines. -/

namespace Sys2Proof.Machine

/-- What comes next. -/
inductive Fetched where
  /-- An instruction, to be run in the given state. -/
  | run (i : Instr) (s : State)
  /-- A step that needs no instruction. -/
  | moved (s : State)
  /-- No meaning. -/
  | stopped (r : Refusal)
  deriving DecidableEq, Repr

/-- A line shows a falling edge and its callback is the operation of command word `w`. Where no callback is registered
for the line, the edge runs nothing (40_marker_register.md R135, log 6). -/
def fetchIrq (w : Byte) (s : State) : Fetched :=
  match decode (.op ⟨w, Operands.zero⟩) with
  | .error why => .stopped (.namesNoInstruction why)
  | .ok i =>
    match i.agent with
    | .irq l => if lineFires s l then .run i s else .moved s
    | .svc => .stopped (.wrongContext w)
    | .decoder => .stopped (.wrongContext w)

/-- The caller's next call; with none, the block waits (70_reset_and_hazards.md R310: "after reset the block does nothing
until an operation is invoked"). -/
def fetchCall (s : State) : Fetched :=
  match s.program with
  | [] => .moved s
  | p :: ps =>
    match decode (.op p) with
    | .error why => .stopped (.namesNoInstruction why)
    | .ok i =>
      match i.agent with
      | .svc => .run i { s with program := ps }
      | .irq _ => .stopped (.wrongContext p.word)
      | .decoder => .stopped (.wrongContext p.word)

/-- The next byte of the frame selects its handler by `off` (42_frame_decoder.md R171, R175); without one the decode ends
(R173, R199). -/
def fetchByte (d : Decode) (s : State) : Fetched :=
  match nextByte d s with
  | none => .moved (finishDecode d s)
  | some b =>
    match decode (.frame d.off b) with
    | .ok i => .run i s
    | .error why => .stopped (.namesNoInstruction why)

/-- The next step of agent SVC, from where it stands (41_service.md R150, 42_frame_decoder.md R170). -/
def fetchSvc (s : State) : Fetched :=
  match s.phase with
  | .idle => fetchCall s
  | .testing l f => .moved (serviceTest l f s)
  | .selected l f => .moved (serviceClear l f s)
  | .calling f => .run (.decodeFrame f) s
  | .decoding d => fetchByte d s
  | .rearm events => .moved (serviceRearm events s)

/-- The agent whose turn it is moves; agent SVC when no turn is listed. -/
def fetch (s : State) : Fetched :=
  match s.turns with
  | .irq w :: ts => fetchIrq w { s with turns := ts }
  | .svc :: ts => fetchSvc { s with turns := ts }
  | [] => fetchSvc s

/-- A state whose very next step runs `i`: a callback's edge on an enabled line, a call when agent SVC is idle,
`decodeFrame` where `service` calls it, or a frame byte under the offset counter. Used by `State.withFetchWord`. -/
def placeInstr (i : Instr) (s : State) : State :=
  match encode i, i.agent with
  | .frame off b, _ =>
    { s with
      turns := .svc :: s.turns
      buf := Memory.ofBytes (List.replicate off 0#8 ++ [b])
      phase := .decoding { startDecode s.params with off := off, expected := maxRequest } }
  | .op p, .irq l =>
    { s with
      turns := .irq p.word :: s.turns
      lineEnabled := enable s.lineEnabled l
      params := { s.params with envNoDrWhileLow := false } }
  | .op p, _ =>
    match i with
    | .decodeFrame f => { s with turns := .svc :: s.turns, phase := .calling f }
    | _ => { s with turns := .svc :: s.turns, phase := .idle, program := p :: s.program }

end Sys2Proof.Machine
end

