-- ==== Sys2Proof/Machine/Step.lean ====
section
/-! DEFINITION. One step of the machine, and the state whose next step runs a given word of the opcode table. -/

namespace Sys2Proof.Machine

/-- One step: the instruction fetched is run; a step that needs none is taken. -/
def step (s : State) : Host.Outcome State Fault Refusal :=
  match fetch s with
  | .run i s' => exec i s'
  | .moved s' => .next s'
  | .stopped r => .refused r

/-- `s` with the instruction of these bits where the next step fetches it (log 3). A word that names no instruction
becomes the caller's next call. -/
def State.withFetchWord (s : State) (nbits w : Nat) : State :=
  match decodeTableWord nbits w with
  | some i => placeInstr i s
  | none =>
    { s with
      turns := .svc :: s.turns
      phase := .idle
      program := ⟨BitVec.ofNat 8 w, Operands.zero⟩ :: s.program }

end Sys2Proof.Machine
end

