-- ==== Sys2Proof/Safety.lean ====
section
/-! DEFINITION. What statements about runs are written in: the invariant of the machine, and what a whole decode and a
whole `service` call come to, written from the frame and not from the loop. -/

namespace Sys2Proof.Safety

open Sys2Proof.Machine

/-- `k` steps of the machine, stopping at the first refusal: `Host.Core.run` of the machine (`Safety.runFor_eq_run`). -/
def runFor : Nat → State → Host.Outcome State Fault Refusal
  | 0, s => .next s
  | k + 1, s =>
    match step s with
    | .next t => runFor k t
    | .fault r => .fault r
    | .refused r => .refused r

/-- Instructions run one after another on the state the one before left. -/
def execAll : List Instr → State → Host.Outcome State Fault Refusal
  | [], s => .next s
  | i :: is, s =>
    match exec i s with
    | .next t => execAll is t
    | .fault r => .fault r
    | .refused r => .refused r

/-- The state in which agent SVC takes its step, if the next turn is its own (20_memory.md R73). -/
def svcMoves (s : State) : Option State :=
  match s.turns with
  | [] => some s
  | .svc :: ts => some { s with turns := ts }
  | .irq _ :: _ => none

/-- The next step is the caller's call of `construct` (command word 0x00), and it is the one construction. -/
def callsConstruct (s : State) : Prop :=
  s.constructionDone = false ∧ s.phase = .idle ∧ (∃ s', svcMoves s = some s') ∧ ∃ p ps, s.program = p :: ps ∧ p.word = 0x00#8

/-- The command word of the callback of a line, `0x80 | i` (40_marker_register.md R130). -/
def callbackWord (l : Line) : Byte := BitVec.ofNat 8 (0x80 + lineBit l)

/-- The `markPending` of a line (30_encoding.md R92). -/
def callbackInstr : Line → Instr
  | .dataReady => .markPendingDR
  | .gesture0 => .markPendingG0
  | .gesture1 => .markPendingG1
  | .gesture2 => .markPendingG2
  | .gesture3 => .markPendingG3

/-- The handlers whose byte the table calls "ignored", with their offsets (30_encoding.md R108). -/
def ignoredHandlers (b : Byte) : List (Nat × Instr) :=
  [ (2, .frame2 b), (3, .frame3 b), (6, .frame6 b), (8, .frame8 b), (9, .frame9 b), (11, .frame11 b),
    (12, .frame12 b), (13, .frame13 b), (16, .frame16 b), (17, .frame17 b), (19, .frame19 b), (26, .frame26 b),
    (27, .frame27 b), (28, .frame28 b), (29, .frame29 b), (30, .frame30 b), (31, .frame31 b) ]

/-! ### The invariant -/

/-- The reachable values of a swipe or generic code register (10_state.md R28, R30). -/
def swipeCodes : List Byte := [0x00#8, 0x22#8, 0x24#8, 0x28#8, 0x30#8, 0x20#8, 0x60#8, 0xA0#8]

/-- The reachable values of the tap code register (R29). -/
def tapCodes : List Byte :=
  [0x00#8, 0x41#8, 0x42#8, 0x43#8, 0x44#8, 0x45#8, 0x46#8, 0x47#8, 0x40#8, 0x48#8, 0x50#8, 0x58#8]

/-- All three axes hold the sentinel, or all three are in 0 to 65535 (R27). -/
def Position.whole (p : Position) : Prop :=
  p = Position.invalid ∨ (p.x.toNat < 65536 ∧ p.y.toNat < 65536 ∧ p.z.toNat < 65536)

/-- How many of the four counting handlers stand below an offset (42_frame_decoder.md R172). -/
def eventSlots (off : Nat) : Nat :=
  (if 10 < off then 1 else 0) + (if 14 < off then 1 else 0) + (if 15 < off then 1 else 0) + (if 18 < off then 1 else 0)

/-- The ranges of the decoder transients (R36, R37, R38, R41). -/
structure Decode.Ok (d : Decode) : Prop where
  off_le : d.off ≤ maxRequest
  off_le_expected : d.off ≤ d.expected
  expected_pos : 1 ≤ d.expected
  expected_le : d.expected ≤ 255
  events_le : d.events ≤ eventSlots d.off
  flags_unset : d.off ≤ 7 → d.pv = false ∧ d.av = false

/-- What holds of the shared state and the frame buffer at each place agent SVC can stand. -/
def PhaseOk (s : State) : Prop :=
  match s.phase with
  | .idle => s.buf = []
  | .testing l _ => s.buf = [] ∧ ∃ l', lineBit l ≤ lineBit l' ∧ pendingIn s.mask l' = true
  | .selected l _ => s.buf = [] ∧ pendingIn s.mask l = true
  | .calling _ => s.buf = []
  | .decoding d => Decode.Ok d ∧ d.off ≤ s.buf.length
  | .rearm events => s.buf = [] ∧ events ≤ 4

/-- The invariant of the machine. -/
structure MachineInv (s : State) : Prop where
  /-- Bits 7 to 5 of `mask` are 0 (R24). -/
  reserved_zero : s.mask &&& 0xE0#8 = 0#8
  /-- A pending bit belongs to a line with a callback (R25, 40_marker_register.md R135). -/
  pending_enabled : ∀ l, pendingIn s.mask l = true → enabledIn s.lineEnabled l = true
  /-- Before `begin` no line is enabled; after it exactly those R243 names (R34, 60_exceptions.md R277). -/
  enabled_as_assigned : s.lineEnabled = if s.ready then enableAssigned s.gestureIrqPins 0#5 else 0#5
  /-- R27 -/
  position_whole : Position.whole s.lastPosition
  /-- R28 -/
  swipe_reachable : s.lastSwipeCode ∈ swipeCodes
  /-- R30 -/
  generic_reachable : s.lastGenericEventCode ∈ swipeCodes
  /-- R29 -/
  tap_reachable : s.lastTapCode ∈ tapCodes
  /-- The frame buffer is in its canonical form (20_memory.md R60). -/
  buf_wf : Memory.wf s.buf
  /-- At most 32 bytes (R64). -/
  buf_le : s.buf.length ≤ maxRequest
  /-- While a `construct` may still come, no operation has run: everything but the inputs and the parameters is as at
  reset (10_state.md R45, log 8). -/
  construction_first : s.constructionDone = false →
    s = { State.reset with params := s.params, turns := s.turns, program := s.program }
  phase_ok : PhaseOk s

/-! ### A whole decode, from the frame -/

/-- The bound on offsets after the length byte: `max(INIT_EXPECTED, buf[0])` (42_frame_decoder.md R204), or under the
reading that was set aside (R206). -/
def lengthBound (p : Params) (b0 : Byte) : Nat :=
  match p.lenReading with
  | .total => max p.initExpected b0.toNat
  | .literalMinusOne => if p.initExpected < b0.toNat then b0.toNat - 1 else p.initExpected

/-- The number of bytes a decode of `f` consumes: 0 if `n = 0`, otherwise `min(n, 32, bound)` (R204, 30_encoding.md
R95). -/
def consumed (p : Params) (f : Frame) : Nat :=
  match f with
  | [] => 0
  | b0 :: _ => min f.length (min maxRequest (lengthBound p b0))

/-- The byte at offset `k` of a frame of which `c` bytes are consumed, none if it is not one of them. -/
def byteAt (f : Frame) (c k : Nat) : Option Byte := if k < c then f[k]? else none

/-- A condition on the byte at an offset: false where the offset was not reached. -/
def holdsAt (f : Frame) (c k : Nat) (cond : Byte → Bool) : Bool :=
  match byteAt f c k with
  | some b => cond b
  | none => false

/-- A register that the byte at offset `k` overwrites with `code b` when `fires b` (30_encoding.md R110). -/
def overwrite (f : Frame) (c k : Nat) (fires : Byte → Bool) (code : Byte → Byte) (old : Byte) : Byte :=
  match byteAt f c k with
  | some b => if fires b then code b else old
  | none => old

/-- The 16-bit little-endian field at offset `k` (R97); 0 where it was not reached. -/
def fieldAt (f : Frame) (c k : Nat) : BitVec 16 :=
  match byteAt f c k, byteAt f c (k + 1) with
  | some lo, some hi => BitVec.ofNat 16 (lo.toNat + 256 * hi.toNat)
  | _, _ => 0#16

/-- Whether offset 7 was reached with the position-valid bit set. -/
def frameHasPosition (f : Frame) (c : Nat) : Bool := holdsAt f c 7 fun b => b.getLsbD 0

/-- Whether offset 7 was reached with the air-wheel-valid bit set. -/
def frameHasWheel (f : Frame) (c : Nat) : Bool := holdsAt f c 7 fun b => b.getLsbD 1

/-- `lastPosition` after a decode: replaced whole if the flag is set and offset 25 was consumed (R196, R201). -/
def positionAfter (f : Frame) (c : Nat) (old : Position) : Position :=
  if frameHasPosition f c && decide (26 ≤ c) then
    { x := (fieldAt f c 20).setWidth 32, y := (fieldAt f c 22).setWidth 32, z := (fieldAt f c 24).setWidth 32 }
  else old

/-- `airWheelAccumulator` after a decode (R192). -/
def wheelAfter (f : Frame) (c : Nat) (old : BitVec 16) : BitVec 16 :=
  match byteAt f c 18 with
  | some b => if frameHasWheel f c then BitVec.ofInt 16 (old.toInt + b.toInt) else old
  | none => old

/-- The recognized events of a decode (R172). -/
def eventsIn (f : Frame) (c : Nat) : Nat :=
  (if holdsAt f c 10 fun b => decide (1 < b.toNat) then 1 else 0)
    + (if holdsAt f c 14 fun b => decide (0x1F < b.toNat) then 1 else 0)
    + (if holdsAt f c 15 fun b => decide (0 < b.toNat) then 1 else 0)
    + (if frameHasWheel f c && holdsAt f c 18 fun _ => true then 1 else 0)

/-- The block after a decode of `f`: every register from the frame's bytes and its value before, `frameCount` one more
(R199), one request made (20_memory.md R61), no buffer left. -/
def decoded (f : Frame) (s : State) : State :=
  let c := consumed s.params f
  { s with
    lastGenericEventCode := overwrite f c 1 (fun b => 1 < b.toNat) swipeCode s.lastGenericEventCode
    lastSwipeCode := overwrite f c 10 (fun b => 1 < b.toNat) swipeCode s.lastSwipeCode
    lastTapCode :=
      overwrite f c 15 (fun b => 0 < b.toNat) tapCodeCont
        (overwrite f c 14 (fun b => 0x1F < b.toNat) tapCode s.lastTapCode)
    airWheelAccumulator := wheelAfter f c s.airWheelAccumulator
    lastPosition := positionAfter f c s.lastPosition
    frameCount := s.frameCount + 1#32
    issued := s.issued ++ [.requestTransfer s.busAddress 32]
    buf := [] }

/-- The number of events of a decode of `f` in state `s`. -/
def decodedEvents (f : Frame) (s : State) : Nat := eventsIn f (consumed s.params f)

end Sys2Proof.Safety
end

