-- ==== Sys2Proof/Certificates/Slice0/Obligations.lean ====
section
/-! DEFINITION. The statements for the provers, grouped as the rules of spec/ are. A statement about an instruction gives
the whole next state, so that what the instruction leaves unchanged is part of it. `constructionDone` is no element of the
block: it is the model's own record that the one construction is past (log 8), and every operation of agent SVC sets it. -/

open Sys2Proof Sys2Proof.Machine Sys2Proof.Safety

/-! ### Reset and lifecycle (10_state.md R46, 43_state_ops.md) -/

/-- 10_state.md R46: the value of every state element after construction; the three arguments are the construction
arguments, and no transient exists. The values are the spec's own decision D3 (log 23). -/
def Obligations.ConstructionGivesTheResetTable : Prop :=
  ∀ (dr rst : PinId) (addr : BusAddress), ∃ t, exec (.construct dr rst addr) State.reset = .next t ∧
    t.busAddress = addr ∧ t.dataReadyPin = dr ∧ t.resetPin = rst ∧
    t.gestureIrqPins = #v[none, none, none, none] ∧ t.mask = 0x00#8 ∧
    t.lastPosition.x.toInt = -1 ∧ t.lastPosition.y.toInt = -1 ∧ t.lastPosition.z.toInt = -1 ∧
    t.lastSwipeCode = 0x00#8 ∧ t.lastTapCode = 0x00#8 ∧ t.lastGenericEventCode = 0x00#8 ∧
    t.airWheelAccumulator = 0#16 ∧ t.frameCount = 0#32 ∧ t.ready = false ∧ t.lineEnabled = 0#5 ∧
    t.drLineMode = .sense ∧ t.phase = .idle ∧ t.buf = []

/-- 43_state_ops.md R239, 10_state.md R45, 70_reset_and_hazards.md R311: the one `construct` stores its arguments, puts
every other element at its reset value, and leaves the parameters, the inputs and the record of outside calls; there is no
second one, and none after any other operation of agent SVC (that it may be the first operation after reset is the
model's choice, log 8). -/
def Obligations.ConstructIsTheReset : Prop :=
  ∀ (s : State) (dr rst : PinId) (addr : BusAddress), s.phase = .idle →
    (s.constructionDone = false → exec (.construct dr rst addr) s =
      .next { State.reset with
        busAddress := addr, dataReadyPin := dr, resetPin := rst, constructionDone := true, params := s.params,
        turns := s.turns, program := s.program, issued := s.issued }) ∧
    (s.constructionDone = true → exec (.construct dr rst addr) s = .refused .secondConstruct) ∧
    (∀ (i : Instr) (t : State), i.agent = .svc → exec i s = .next t → t.constructionDone = true)

/-- 43_state_ops.md R240: before `begin`, an index 0 to 3 writes that one entry and answers 0; any other index is
ConfigError, before and after `begin` (R241): the answer is -1 and nothing else changes. -/
def Obligations.SetGestureIrqPinWritesOneEntryOrFails : Prop :=
  ∀ (s : State) (lineIndex : Int) (pin : PinId), s.phase = .idle →
    (∀ k : Fin 4, lineIndex = k.val → s.ready = false →
      exec (.setGestureIrqPin lineIndex pin) s =
        .next { s with
          gestureIrqPins := s.gestureIrqPins.set k.val (some pin), result := .value 0, constructionDone := true }) ∧
    (lineIndex < 0 ∨ 3 < lineIndex →
      exec (.setGestureIrqPin lineIndex pin) s =
        .next { s with result := .value (-1), constructionDone := true })

/-- 43_state_ops.md R243: the first `begin` senses the data-ready line, enables line 0 and exactly the gesture lines with
a pin, sets `ready`, and changes nothing else of the block; it registers a callback per enabled line and pulses the
reset pin. -/
def Obligations.BeginEnablesTheAssignedLines : Prop :=
  ∀ s : State, s.phase = .idle → s.ready = false → ∃ t, exec .beginOp s = .next t ∧
    t = { s with
      drLineMode := .sense, ready := true, lineEnabled := t.lineEnabled, result := .none, issued := t.issued,
      constructionDone := true } ∧
    enabledIn t.lineEnabled .dataReady = true ∧
    (∀ k : Fin 4, enabledIn t.lineEnabled (gestureLine k) =
      (enabledIn s.lineEnabled (gestureLine k) || s.gestureIrqPins[k.val].isSome)) ∧
    (∃ calls, t.issued = s.issued ++ calls) ∧
    ExternalCall.registerEdgeCallback s.dataReadyPin .dataReady ∈ t.issued ∧
    (∀ (k : Fin 4) (p : PinId), s.gestureIrqPins[k.val] = some p →
      ExternalCall.registerEdgeCallback p (gestureLine k) ∈ t.issued) ∧
    ExternalCall.pulseReset s.resetPin ∈ t.issued

/-- 43_state_ops.md R241, R244, D18: after `begin`, a `setGestureIrqPin` with a valid index and a second `begin` have no
meaning. -/
def Obligations.LifecycleMisuseIsRefused : Prop :=
  ∀ s : State, s.phase = .idle → s.ready = true →
    (∀ (k : Fin 4) (pin : PinId), exec (.setGestureIrqPin k.val pin) s = .refused .gesturePinAfterBegin) ∧
    exec .beginOp s = .refused .secondBegin

/-- 43_state_ops.md R230: five registers go to their clean values and nothing else changes; doing it twice is doing it
once. -/
def Obligations.MarkCleanResetsFiveRegisters : Prop :=
  ∀ s : State, s.phase = .idle → ∃ t,
    exec .markClean s = .next t ∧ exec .markClean t = .next t ∧
    t = { s with
      lastTapCode := 0x00#8, lastSwipeCode := 0x00#8, lastGenericEventCode := 0x00#8,
      lastPosition := { x := -1, y := -1, z := -1 }, airWheelAccumulator := 0#16, result := .none,
      constructionDone := true }

/-- 43_state_ops.md R242: `markClean`, then any accessor of a resettable register, whatever the state before, and
whatever interrupts do to `mask` and `drLineMode` in between. -/
def Obligations.CleanReadAnswersTheCleanValues : Prop :=
  ∀ s : State, s.phase = .idle → ∃ t, exec .markClean s = .next t ∧ ∀ (m : BitVec 8) (dr : DrLineMode),
    (∀ i ∈ [Instr.readRegX, .readRegY, .readRegZ], ∃ u,
      exec i { t with mask := m, drLineMode := dr } = .next u ∧ u.result = .value (-1)) ∧
    (∀ i ∈ [Instr.readRegSwipe, .readRegTap, .readRegGeneric, .readRegAirwheel], ∃ u,
      exec i { t with mask := m, drLineMode := dr } = .next u ∧ u.result = .value 0)

/-! ### Accessors, labels, dump -/

/-- 43_state_ops.md R231 to R236: each accessor answers its register's value and changes no state of the block. -/
def Obligations.AccessorsReadTheirRegister : Prop :=
  ∀ s : State, s.phase = .idle →
    exec .readRegX s = .next { s with result := .value s.lastPosition.x.toInt, constructionDone := true } ∧
    exec .readRegY s = .next { s with result := .value s.lastPosition.y.toInt, constructionDone := true } ∧
    exec .readRegZ s = .next { s with result := .value s.lastPosition.z.toInt, constructionDone := true } ∧
    exec .readRegSwipe s = .next { s with result := .value s.lastSwipeCode.toNat, constructionDone := true } ∧
    exec .readRegTap s = .next { s with result := .value s.lastTapCode.toNat, constructionDone := true } ∧
    exec .readRegGeneric s = .next { s with result := .value s.lastGenericEventCode.toNat, constructionDone := true } ∧
    exec .readRegAirwheel s = .next { s with result := .value s.airWheelAccumulator.toInt, constructionDone := true } ∧
    exec .readRegFramecount s = .next { s with result := .value s.frameCount.toNat, constructionDone := true }

/-- 43_state_ops.md R231 with 10_state.md R27: the three position reads are all -1, or all in 0 to 65535. -/
def Obligations.PositionReadsAreWhole : Prop :=
  ∀ s : State, s.phase = .idle → MachineInv s → ∃ x y z : Int,
    exec .readRegX s = .next { s with result := .value x, constructionDone := true } ∧
    exec .readRegY s = .next { s with result := .value y, constructionDone := true } ∧
    exec .readRegZ s = .next { s with result := .value z, constructionDone := true } ∧
    ((x = -1 ∧ y = -1 ∧ z = -1) ∨
      (0 ≤ x ∧ x ≤ 65535 ∧ 0 ≤ y ∧ y ≤ 65535 ∧ 0 ≤ z ∧ z ≤ 65535))

/-- 43_state_ops.md R237 over the table of 30_encoding.md R106: exact equality against the nine codes, the empty label
for every other byte, and no state read or written; and the texts the source prints. Seven of the nine rows are the
spec's completion from general knowledge (log 18). -/
def Obligations.EventCodeToLabelIsExactEquality : Prop :=
  ∀ (s : State) (code : Byte), s.phase = .idle → ∃ l,
    exec (.eventCodeToLabel code) s = .next { s with result := .label l, constructionDone := true } ∧
    (code = 0x22#8 → l = .rightSwipe) ∧ (code = 0x24#8 → l = .leftSwipe) ∧ (code = 0x28#8 → l = .upSwipe) ∧
    (code = 0x30#8 → l = .downSwipe) ∧ (code = 0x41#8 → l = .tapSouth) ∧ (code = 0x42#8 → l = .tapWest) ∧
    (code = 0x44#8 → l = .tapNorth) ∧ (code = 0x48#8 → l = .tapEast) ∧ (code = 0x50#8 → l = .tapCenter) ∧
    (code ∉ [0x22#8, 0x24#8, 0x28#8, 0x30#8, 0x41#8, 0x42#8, 0x44#8, 0x48#8, 0x50#8] → l = .empty) ∧
    labelText .rightSwipe = "Right Swipe" ∧ labelText .tapNorth = "Tap North" ∧ labelText .empty = ""

/-- 43_state_ops.md R238: the six values, the two codes through the label function, and no state changed. -/
def Obligations.DumpReportsSixValues : Prop :=
  ∀ s : State, s.phase = .idle →
    exec .dump s = .next { s with
      constructionDone := true
      result := .dump {
        x := s.lastPosition.x.toInt, y := s.lastPosition.y.toInt, z := s.lastPosition.z.toInt,
        swipeLabel := labelOf s.lastSwipeCode, tapLabel := labelOf s.lastTapCode,
        airWheel := s.airWheelAccumulator.toInt } }

/-! ### The marker register (40_marker_register.md) -/

/-- R130, R131: on the enabled data-ready line, bit 0 is set, the line is held low, and nothing else changes, wherever
agent SVC stands. -/
def Obligations.DataReadyFiringSetsBitAndHoldsLow : Prop :=
  ∀ s : State, enabledIn s.lineEnabled .dataReady = true →
    exec .markPendingDR s = .next { s with mask := s.mask ||| 0x01#8, drLineMode := .holdLow }

/-- R132: an enabled gesture line sets its one bit and touches nothing else. -/
def Obligations.GestureFiringSetsItsBitOnly : Prop :=
  ∀ s : State,
    (enabledIn s.lineEnabled .gesture0 = true → exec .markPendingG0 s = .next { s with mask := s.mask ||| 0x02#8 }) ∧
    (enabledIn s.lineEnabled .gesture1 = true → exec .markPendingG1 s = .next { s with mask := s.mask ||| 0x04#8 }) ∧
    (enabledIn s.lineEnabled .gesture2 = true → exec .markPendingG2 s = .next { s with mask := s.mask ||| 0x08#8 }) ∧
    (enabledIn s.lineEnabled .gesture3 = true → exec .markPendingG3 s = .next { s with mask := s.mask ||| 0x10#8 })

/-- R135: on a line with no callback the operation does not exist. -/
def Obligations.FiringWithoutCallbackIsRefused : Prop :=
  ∀ (s : State) (l : Line), enabledIn s.lineEnabled l = false →
    exec (callbackInstr l) s = .refused (.lineNotEnabled l)

/-- R136: a firing on a pending line leaves `mask` unchanged, and a second firing changes nothing at all. -/
def Obligations.FiringIsIdempotent : Prop :=
  ∀ (s : State) (l : Line), enabledIn s.lineEnabled l = true → ∃ t,
    exec (callbackInstr l) s = .next t ∧ exec (callbackInstr l) t = .next t ∧
    (pendingIn s.mask l = true → t.mask = s.mask)

/-- R133: firings of two enabled lines commute. -/
def Obligations.FiringsCommute : Prop :=
  ∀ (s : State) (l k : Line), enabledIn s.lineEnabled l = true → enabledIn s.lineEnabled k = true → ∃ t,
    execAll [callbackInstr l, callbackInstr k] s = .next t ∧ execAll [callbackInstr k, callbackInstr l] s = .next t

/-! ### The service routine (41_service.md) -/

/-- R152: with no pending bit, `service` answers 0 and changes nothing; in particular it makes no bus request. -/
def Obligations.ServiceWithNothingPending : Prop :=
  ∀ (s : State) (f : Frame), s.phase = .idle → s.mask = 0x00#8 →
    exec (.service f) s = .next { s with result := .value 0, constructionDone := true }

/-- R161: before `begin` no line is enabled, so nothing is pending (the invariant) and every `service` answers 0 and
changes nothing. -/
def Obligations.ServiceBeforeBeginFindsNothing : Prop :=
  ∀ (s : State) (f : Frame), MachineInv s → s.phase = .idle → s.ready = false →
    exec (.service f) s = .next { s with result := .value 0, constructionDone := true }

/-- R151, R281: under SELECT = snapshot `service` chooses the least-numbered pending bit, from one read, and clears
nothing yet. -/
def Obligations.ServiceChoosesTheHighestPriority : Prop :=
  ∀ (s : State) (f : Frame) (l : Line), s.phase = .idle → s.params.select = .snapshot →
    pendingIn s.mask l = true → (∀ k, lineBit k < lineBit l → pendingIn s.mask k = false) →
    exec (.service f) s = .next { s with phase := .selected l f, constructionDone := true }

/-- R160: under SELECT = chained, each test is one fresh read of `mask`, whatever interrupts did since the test before:
the line is chosen exactly if its bit is set at that step, and otherwise the next line in priority order comes (the call
ends with 0 after the last). With no interrupt landing, the tests reach the line that snapshot chooses, after the first
step's zero test (log 12). -/
def Obligations.ChainedServiceChoosesTheSameLine : Prop :=
  (∀ (s s' : State) (l : Line) (f : Frame), svcMoves s = some s' → s.phase = .testing l f →
    (pendingIn s.mask l = true → step s = .next { s' with phase := .selected l f }) ∧
    (pendingIn s.mask l = false →
      (∀ k, lineBit k = lineBit l + 1 → step s = .next { s' with phase := .testing k f }) ∧
      (l = .gesture3 → step s = .next { s' with phase := .idle, result := .value 0 }))) ∧
  (∀ (s : State) (o : Operands) (rest : List Packet) (l : Line), s.phase = .idle → s.turns = [] →
    s.params.select = .chained → s.program = ⟨0x30#8, o⟩ :: rest →
    pendingIn s.mask l = true → (∀ k, lineBit k < lineBit l → pendingIn s.mask k = false) →
    runFor (lineBit l + 2) s =
      .next { s with phase := .selected l o.frame, program := rest, constructionDone := true })

/-- R151, R153, R156: the clear takes exactly the chosen bit; the data-ready path goes on to decode, a gesture path
answers 1 and does nothing else. -/
def Obligations.ServiceClearsExactlyTheChosenBit : Prop :=
  ∀ (s s' : State) (l : Line) (f : Frame), svcMoves s = some s' → s.phase = .selected l f → ∃ t,
    step s = .next t ∧ (∀ k, pendingIn t.mask k = (pendingIn s.mask k && decide (k ≠ l))) ∧
    (l = .dataReady → t = { s' with mask := t.mask, phase := .calling f }) ∧
    (l ≠ .dataReady → t = { s' with mask := t.mask, phase := .idle, result := .value 1 })

/-- R154, R155: after the decode the line is re-armed and the result is 1 if any event was recognized, else 0. -/
def Obligations.ServiceRearmsAndAnswers : Prop :=
  ∀ (s s' : State) (events : Nat), svcMoves s = some s' → s.phase = .rearm events →
    step s = .next { s' with
      drLineMode := .sense, phase := .idle, result := .value (if events = 0 then 0 else 1) }

/-- 20_memory.md R74: a firing of another line between the read and the clear of `service` survives the clear. -/
def Obligations.NoFiringIsLostBetweenReadAndClear : Prop :=
  ∀ (s : State) (l k : Line) (f : Frame) (ts : List Turn), s.phase = .selected l f → k ≠ l →
    s.turns = .irq (callbackWord k) :: .svc :: ts → lineFires s k = true → ∃ t,
    runFor 2 s = .next t ∧ pendingIn t.mask k = true ∧ pendingIn t.mask l = false

/-- 70_reset_and_hazards.md R323: data-ready fires again before the re-arm; the bit is pending on a released line. -/
def Obligations.RefiringBeforeTheRearmLeavesTheLineReleased : Prop :=
  ∀ (s : State) (events : Nat), s.phase = .rearm events → s.turns = [.irq 0x80#8] →
    enabledIn s.lineEnabled .dataReady = true → s.params.envNoDrWhileLow = false → ∃ t,
    runFor 2 s = .next t ∧ pendingIn t.mask .dataReady = true ∧ t.drLineMode = .sense

/-! ### The frame decoder (42_frame_decoder.md) -/

/-- R170, R174 with 20_memory.md R61, R63: one request of 32 bytes to the bus address, the delivered bytes in the buffer
at their offsets, the transients at their start values, where `service` calls it on its data-ready path; called by the
caller itself it is refused (log 14). -/
def Obligations.DecodeFrameRequestsOneTransfer : Prop :=
  ∀ (s : State) (f : Frame),
    (∀ g, s.phase = .calling g → ∃ t, exec (.decodeFrame f) s = .next t ∧
      t = { s with
        buf := t.buf
        issued := s.issued ++ [.requestTransfer s.busAddress 32]
        phase := .decoding {
          off := 0, expected := s.params.initExpected, pv := false, av := false, dataOutputMask := 0#16,
          tx := 0#16, ty := 0#16, tz := 0#16, events := 0 } } ∧
      (∀ k, Memory.read t.buf k = if k < 32 then f[k]? else none) ∧
      1 ≤ s.params.initExpected ∧ s.params.initExpected ≤ 32) ∧
    (s.phase = .idle → exec (.decodeFrame f) s = .refused .decodeFrameOutsideService)

/-- 30_encoding.md R108: the ignored bytes are consumed and have no effect whatever their value; offsets 4 and 5 touch
only the transient that nothing reads. -/
def Obligations.IgnoredBytesOnlyAdvance : Prop :=
  ∀ (s : State) (d : Decode) (b : Byte), s.phase = .decoding d →
    (∀ ki ∈ ignoredHandlers b, d.off = ki.1 →
      exec ki.2 s = .next { s with phase := .decoding { d with off := ki.1 + 1 } }) ∧
    (d.off = 4 → exec (.frame4 b) s =
      .next { s with phase := .decoding { d with dataOutputMask := BitVec.ofNat 16 b.toNat, off := 5 } }) ∧
    (d.off = 5 → exec (.frame5 b) s =
      .next { s with
        phase := .decoding
          { d with dataOutputMask := d.dataOutputMask ||| BitVec.ofNat 16 (256 * b.toNat), off := 6 } })

/-- R176 and R206: offset 0 can only raise the expected byte count, to the declared length under the reading taken and to
one less under the other; nothing else changes. -/
def Obligations.DeclaredLengthRaisesTheBound : Prop :=
  ∀ (s : State) (d : Decode) (b : Byte), s.phase = .decoding d → d.off = 0 →
    (s.params.lenReading = .total → exec (.frame0 b) s =
      .next { s with phase := .decoding { d with expected := max d.expected b.toNat, off := 1 } }) ∧
    (s.params.lenReading = .literalMinusOne → exec (.frame0 b) s =
      .next { s with phase := .decoding { d with expected := max d.expected (b.toNat - 1), off := 1 } })

/-- R182 with 30_encoding.md R98: offset 7 sets the two flags from bits 0 and 1; bits 2 to 7 play no part. -/
def Obligations.SystemInfoSetsTheTwoFlags : Prop :=
  ∀ (s : State) (d : Decode) (b : Byte), s.phase = .decoding d → d.off = 7 →
    exec (.frame7 b) s = .next { s with
      phase := .decoding { d with
        pv := decide (b.toNat % 2 = 1), av := decide (b.toNat / 2 % 2 = 1), off := 8 } }

/-- R177, R184 with 30_encoding.md R100: offsets 1 and 10 write the generic and the swipe code `trunc_8(1 << (b-1)) | 0x20`
when `b > 1` and leave their register as it was otherwise; only offset 10 counts an event. -/
def Obligations.CodeBytesWriteTheirCode : Prop :=
  ∀ (s : State) (d : Decode) (b : Byte), s.phase = .decoding d →
    (d.off = 1 → exec (.frame1 b) s = .next { s with
      lastGenericEventCode :=
        if 1 < b.toNat then BitVec.ofNat 8 (2 ^ (b.toNat - 1)) ||| 0x20#8 else s.lastGenericEventCode
      phase := .decoding { d with off := 2 } }) ∧
    (d.off = 10 → exec (.frame10 b) s = .next { s with
      lastSwipeCode := if 1 < b.toNat then BitVec.ofNat 8 (2 ^ (b.toNat - 1)) ||| 0x20#8 else s.lastSwipeCode
      phase := .decoding { d with off := 11, events := if 1 < b.toNat then d.events + 1 else d.events } })

/-- R188, R189 with 30_encoding.md R101, R102: offset 14 writes `0x40 | b[7:5]` when `b > 31`, offset 15 writes
`0x40 | (b[1:0] << 3)` when `b > 0`, each counting one event. -/
def Obligations.TouchBytesWriteTheTapCode : Prop :=
  ∀ (s : State) (d : Decode) (b : Byte), s.phase = .decoding d →
    (d.off = 14 → exec (.frame14 b) s = .next { s with
      lastTapCode := if 31 < b.toNat then BitVec.ofNat 8 (0x40 + b.toNat / 32) else s.lastTapCode
      phase := .decoding { d with off := 15, events := if 31 < b.toNat then d.events + 1 else d.events } }) ∧
    (d.off = 15 → exec (.frame15 b) s = .next { s with
      lastTapCode := if 0 < b.toNat then BitVec.ofNat 8 (0x40 + 8 * (b.toNat % 4)) else s.lastTapCode
      phase := .decoding { d with off := 16, events := if 0 < b.toNat then d.events + 1 else d.events } })

/-- R191: offset 15's tap code replaces offset 14's when both fire (no merge), offset 14's stands when only it fires,
and each firing counts. -/
def Obligations.LastTouchByteWins : Prop :=
  ∀ (s : State) (d : Decode) (a b : Byte), s.phase = .decoding d → d.off = 14 → ∃ t d',
    execAll [.frame14 a, .frame15 b] s = .next t ∧ t.phase = .decoding d' ∧
    t.lastTapCode =
      (if 0 < b.toNat then BitVec.ofNat 8 (0x40 + 8 * (b.toNat % 4))
       else if 31 < a.toNat then BitVec.ofNat 8 (0x40 + a.toNat / 32)
       else s.lastTapCode) ∧
    d'.events = d.events + (if 31 < a.toNat then 1 else 0) + (if 0 < b.toNat then 1 else 0)

/-- R192 with 30_encoding.md R103: with the air-wheel flag set, offset 18 adds the signed byte to the signed accumulator,
wrapped to 16 bits, and counts one event whatever the byte; without it the byte is ignored. -/
def Obligations.AirWheelAccumulatesSignedDelta : Prop :=
  ∀ (s : State) (d : Decode) (b : Byte), s.phase = .decoding d → d.off = 18 →
    (d.av = true → ∃ acc : BitVec 16,
      acc.toInt = Int.bmod (s.airWheelAccumulator.toInt + b.toInt) (2 ^ 16) ∧
      exec (.frame18 b) s = .next { s with
        airWheelAccumulator := acc
        phase := .decoding { d with off := 19, events := d.events + 1 } }) ∧
    (d.av = false → exec (.frame18 b) s = .next { s with phase := .decoding { d with off := 19 } })

/-- R194 to R196: the position bytes go to the holding registers, low byte first, and `lastPosition` is written at offset
25 only, all three axes at once, only if the position-valid flag is set. -/
def Obligations.PositionBytesAreHeldThenCommitted : Prop :=
  ∀ (s : State) (d : Decode) (b : Byte), s.phase = .decoding d →
    (d.off = 20 → exec (.frame20 b) s =
      .next { s with phase := .decoding { d with tx := BitVec.ofNat 16 b.toNat, off := 21 } }) ∧
    (d.off = 21 → exec (.frame21 b) s =
      .next { s with phase := .decoding { d with tx := d.tx ||| BitVec.ofNat 16 (256 * b.toNat), off := 22 } }) ∧
    (d.off = 22 → exec (.frame22 b) s =
      .next { s with phase := .decoding { d with ty := BitVec.ofNat 16 b.toNat, off := 23 } }) ∧
    (d.off = 23 → exec (.frame23 b) s =
      .next { s with phase := .decoding { d with ty := d.ty ||| BitVec.ofNat 16 (256 * b.toNat), off := 24 } }) ∧
    (d.off = 24 → exec (.frame24 b) s =
      .next { s with phase := .decoding { d with tz := BitVec.ofNat 16 b.toNat, off := 25 } }) ∧
    (d.off = 25 → exec (.frame25 b) s =
      .next { s with
        lastPosition :=
          if d.pv then
            { x := d.tx.setWidth 32
              y := d.ty.setWidth 32
              z := (d.tz ||| BitVec.ofNat 16 (256 * b.toNat)).setWidth 32 }
          else s.lastPosition
        phase := .decoding { d with tz := d.tz ||| BitVec.ofNat 16 (256 * b.toNat), off := 26 } })

/-- 20_memory.md R66: the six bytes of offsets 20 to 25 are three little-endian 16-bit values, and the position read back
is those three numbers; with the flag clear it is what it was. -/
def Obligations.PositionBlockIsLittleEndian : Prop :=
  ∀ (s : State) (d : Decode) (b0 b1 b2 b3 b4 b5 : Byte),
    s.phase = .decoding d → d.off = 20 → ∃ t,
    execAll [.frame20 b0, .frame21 b1, .frame22 b2, .frame23 b3, .frame24 b4, .frame25 b5] s = .next t ∧
    t = { s with lastPosition := t.lastPosition, phase := t.phase } ∧
    (d.pv = true →
      t.lastPosition.x.toInt = b0.toNat + 256 * b1.toNat ∧
      t.lastPosition.y.toInt = b2.toNat + 256 * b3.toNat ∧
      t.lastPosition.z.toInt = b4.toNat + 256 * b5.toNat) ∧
    (d.pv = false → t.lastPosition = s.lastPosition)

/-- 30_encoding.md R104, R105: the code formulas over all byte values. -/
def Obligations.EventCodeValueTables : Prop :=
  (∀ v : Byte, 1 < v.toNat →
    swipeCode v =
      (if v = 2#8 then 0x22#8 else if v = 3#8 then 0x24#8 else if v = 4#8 then 0x28#8 else if v = 5#8 then 0x30#8
       else if v = 6#8 then 0x20#8 else if v = 7#8 then 0x60#8 else if v = 8#8 then 0xA0#8 else 0x20#8)) ∧
  (∀ v : Byte, 31 < v.toNat →
    tapCode v ∈ [0x41#8, 0x42#8, 0x43#8, 0x44#8, 0x45#8, 0x46#8, 0x47#8] ∧ (tapCode v).toNat = 0x40 + v.toNat / 32) ∧
  (∀ v : Byte, 0 < v.toNat →
    tapCodeCont v =
      (if v.toNat % 4 = 0 then 0x40#8 else if v.toNat % 4 = 1 then 0x48#8 else if v.toNat % 4 = 2 then 0x50#8
       else 0x58#8))

/-- R175: a handler is selected by the offset alone; anywhere else it has no meaning (log 28). -/
def Obligations.HandlerOutOfPlaceIsRefused : Prop :=
  ∀ (s : State) (i : Instr) (k : Nat) (b : Byte), encode i = .frame k b →
    (∀ d, s.phase = .decoding d → d.off ≠ k) → exec i s = .refused (.decoderNotAt k)

/-- 60_exceptions.md R292, U14: an operation of agent SVC while another is in progress has no meaning; the one call that
`service` itself makes is no such operation. -/
def Obligations.SecondServiceThreadIsRefused : Prop :=
  ∀ (s : State) (i : Instr), i.agent = .svc → s.phase ≠ .idle →
    (∀ f g, i = .decodeFrame f → s.phase ≠ .calling g) → exec i s = .refused .secondServiceThread

/-! ### Encoding (30_encoding.md) -/

/-- Decoding an encoded instruction gives it back, for every instruction and every operand. -/
def Obligations.DecodeOfEncode : Prop := ∀ i : Instr, decode (encode i) = .ok i

/-- A decoded instruction encodes to the word, or to the offset and byte, it was decoded from: no two command words name
one operation. -/
def Obligations.EncodeKeepsTheWord : Prop :=
  (∀ (p : Packet) (i : Instr), decode (.op p) = .ok i → ∃ q, encode i = .op q ∧ q.word = p.word) ∧
  (∀ (off : Nat) (b : Byte) (i : Instr), decode (.frame off b) = .ok i → encode i = .frame off b)

/-- R91: exactly the 21 command words of the table name an operation, whatever travels beside them; exactly the offsets
0 to 31 have a handler. -/
def Obligations.OtherWordsNameNothing : Prop :=
  (∀ (w : Byte) (o : Operands),
    (∃ i, decode (.op ⟨w, o⟩) = .ok i) ↔
      w ∈ [0x00#8, 0x10#8, 0x20#8, 0x30#8, 0x40#8, 0x50#8, 0x51#8, 0x52#8, 0x53#8, 0x54#8, 0x55#8, 0x56#8, 0x57#8,
        0x60#8, 0x70#8, 0x80#8, 0x81#8, 0x82#8, 0x83#8, 0x84#8, 0x90#8]) ∧
  (∀ (off : Nat) (b : Byte), (∃ i, decode (.frame off b) = .ok i) ↔ off < 32)

/-- R90, R91, R96: a few encodings, written out from the tables. -/
def Obligations.WrittenWordsDecode : Prop :=
  decode (.op ⟨0b00110000#8, { Operands.zero with frame := [0x02#8, 0x08#8] }⟩) = .ok (.service [0x02#8, 0x08#8]) ∧
  decode (.op ⟨0b01010110#8, Operands.zero⟩) = .ok .readRegAirwheel ∧
  decode (.op ⟨0b10000011#8, Operands.zero⟩) = .ok .markPendingG2 ∧
  decode (.frame 0b01110 0xE0#8) = .ok (.frame14 0xE0#8)

/-! ### The step -/

/-- A step of agent SVC runs the instruction it decodes: the caller's next call when idle, the handler of the next frame
byte inside a decode, and `decodeFrame` on the data-ready path of `service`. -/
def Obligations.StepRunsTheDecodedInstruction : Prop :=
  ∀ s s' : State, svcMoves s = some s' →
    (∀ p ps i, s.phase = .idle → s.program = p :: ps → decode (.op p) = .ok i → i.agent = .svc →
      step s = exec i { s' with program := ps }) ∧
    (∀ d b i, s.phase = .decoding d → d.off < d.expected → d.off < 32 →
      Memory.read s.buf d.off = some b → decode (.frame d.off b) = .ok i → step s = exec i s') ∧
    (∀ f, s.phase = .calling f → step s = exec (.decodeFrame f) s')

/-- 40_marker_register.md R135 and 70_reset_and_hazards.md R324: an edge on a line runs its callback, wherever agent SVC
stands, exactly when the callback is registered and the optional assumption does not exclude it; otherwise it runs
nothing (log 6). -/
def Obligations.EdgeRunsItsCallback : Prop :=
  ∀ (s : State) (l : Line) (ts : List Turn), s.turns = .irq (callbackWord l) :: ts →
    (enabledIn s.lineEnabled l = true →
      (s.params.envNoDrWhileLow = false ∨ l ≠ .dataReady ∨ s.drLineMode = .sense) →
      step s = exec (callbackInstr l) { s with turns := ts }) ∧
    (enabledIn s.lineEnabled l = false → step s = .next { s with turns := ts }) ∧
    (s.params.envNoDrWhileLow = true → l = .dataReady → s.drLineMode = .holdLow → step s = .next { s with turns := ts })

/-- 60_exceptions.md R288, 30_encoding.md R91, 42_frame_decoder.md R170: a word that the moving agent may not run is
refused by name: an operation of the other context, a word that names no operation (log 29), and `decodeFrame` called by
the caller (log 14). -/
def Obligations.OtherContextsOperationIsRefused : Prop :=
  (∀ (s s' : State) (p : Packet) (ps : List Packet) (l : Line), svcMoves s = some s' → s.phase = .idle →
    s.program = p :: ps → p.word = callbackWord l → step s = .refused (.wrongContext p.word)) ∧
  (∀ (s : State) (ts : List Turn) (i : Instr) (w : Byte), s.turns = .irq w :: ts →
    decode (.op ⟨w, Operands.zero⟩) = .ok i → i.agent = .svc → step s = .refused (.wrongContext w)) ∧
  (∀ (s s' : State) (p : Packet) (ps : List Packet) (why : Reject), svcMoves s = some s' → s.phase = .idle →
    s.program = p :: ps → decode (.op p) = .error why → step s = .refused (.namesNoInstruction why)) ∧
  (∀ (s : State) (ts : List Turn) (w : Byte) (why : Reject), s.turns = .irq w :: ts →
    decode (.op ⟨w, Operands.zero⟩) = .error why → step s = .refused (.namesNoInstruction why)) ∧
  (∀ (s s' : State) (p : Packet) (ps : List Packet), svcMoves s = some s' → s.phase = .idle →
    s.program = p :: ps → p.word = 0x90#8 → step s = .refused .decodeFrameOutsideService)

/-- The end of a decode (42_frame_decoder.md R173, R199): when no byte is consumed, `frameCount` advances by one, the
buffer is gone, and `events` goes to `service`. -/
def Obligations.DecodeEndsByCountingTheFrame : Prop :=
  ∀ (s s' : State) (d : Decode), svcMoves s = some s' → s.phase = .decoding d →
    (d.expected ≤ d.off ∨ 32 ≤ d.off ∨ Memory.read s.buf d.off = none) →
    step s = .next { s' with
      frameCount := BitVec.ofNat 32 (s.frameCount.toNat + 1), buf := [], phase := .rearm d.events }

/-! ### The whole machine -/

/-- The reset state meets the invariant. -/
def Obligations.ResetMeetsInv : Prop := MachineInv State.reset

/-- Every step from a state that meets the invariant leads to one that does: reserved mask bits zero, pending only on
enabled lines, lines enabled as assigned, a whole position, reachable codes, a canonical frame buffer, transients in
range, and the reset values of everything while a `construct` may still come. -/
def Obligations.StepKeepsInv : Prop := ∀ s t : State, MachineInv s → step s = .next t → MachineInv t

/-- 10_state.md R25, 40_marker_register.md R137, 60_exceptions.md R278: a bit of `mask` becomes 1 only by its line's
callback, and becomes 0 only when `service` clears the bit it chose, or by the one `construct`; under the invariant that
one finds no bit set, so that only `service` clears a bit. -/
def Obligations.PendingBitsChangeOnlyByTheirOwners : Prop :=
  ∀ (s t : State) (l : Line), step s = .next t →
    (pendingIn s.mask l = false → pendingIn t.mask l = true → ∃ ts, s.turns = .irq (callbackWord l) :: ts) ∧
    (pendingIn s.mask l = true → pendingIn t.mask l = false →
      (∃ f, s.phase = .selected l f) ∨ callsConstruct s) ∧
    (MachineInv s → pendingIn s.mask l = true → pendingIn t.mask l = false → ∃ f, s.phase = .selected l f)

/-- 10_state.md R44, 60_exceptions.md R288: interrupt context changes at most `mask`, where it clears nothing, and
`drLineMode`, which it only holds low, for the data-ready line. -/
def Obligations.InterruptContextTouchesOnlyTheShared : Prop :=
  ∀ (s t : State) (w : Byte) (ts : List Turn), s.turns = .irq w :: ts → step s = .next t →
    t = { s with turns := ts, mask := t.mask, drLineMode := t.drLineMode } ∧
    (∀ l, pendingIn s.mask l = true → pendingIn t.mask l = true) ∧
    (t.drLineMode = s.drLineMode ∨ (w = 0x80#8 ∧ t.drLineMode = .holdLow))

/-- 20_memory.md R73, 10_state.md R42: inside a decode, an interrupt and a step of agent SVC can be exchanged, so that the
decode can be taken as one step. -/
def Obligations.InterruptsCommuteWithDecoding : Prop :=
  ∀ (s : State) (d : Decode) (w : Byte) (ts : List Turn), s.phase = .decoding d →
    runFor 2 { s with turns := .irq w :: .svc :: ts } = runFor 2 { s with turns := .svc :: .irq w :: ts }

/-- 10_state.md R32, 42_frame_decoder.md R199: `frameCount` changes only by one, at the step that leaves a decode, and
does so at every such step; the one `construct` is the exception. -/
def Obligations.FrameCountCountsDecodes : Prop :=
  ∀ s t : State, step s = .next t → ¬ callsConstruct s →
    (t.frameCount = s.frameCount ∨ t.frameCount = s.frameCount + 1#32) ∧
    (t.frameCount ≠ s.frameCount ↔
      (∃ d, s.phase = .decoding d) ∧ ∀ d, t.phase ≠ .decoding d)

/-- 10_state.md R21, R22, R33, R34, R45, 60_exceptions.md R277: the configuration is fixed, and `ready`, the gesture pins
and the enabled lines stay once `begin` has run; the one `construct` is the exception, and once it is past it stays past.
The parameters never change. -/
def Obligations.ConfigurationIsIrreversible : Prop :=
  ∀ s t : State, step s = .next t →
    t.params = s.params ∧
    (s.constructionDone = true → t.constructionDone = true) ∧
    (¬ callsConstruct s →
      t.busAddress = s.busAddress ∧ t.dataReadyPin = s.dataReadyPin ∧ t.resetPin = s.resetPin ∧
      (s.ready = true →
        t.ready = true ∧ t.gestureIrqPins = s.gestureIrqPins ∧ t.lineEnabled = s.lineEnabled))

/-- 10_state.md R27: `lastPosition` changes only to the sentinel (by `markClean` or `construct`) or, at offset 25 of a
decode whose position-valid flag is set, to the three held values at once. -/
def Obligations.PositionIsReplacedWhole : Prop :=
  ∀ s t : State, step s = .next t → t.lastPosition ≠ s.lastPosition →
    (t.lastPosition = Position.invalid ∧ s.phase = .idle) ∨
    ∃ d b, s.phase = .decoding d ∧ d.off = 25 ∧ d.pv = true ∧ Memory.read s.buf 25 = some b ∧
      t.lastPosition =
        { x := d.tx.setWidth 32, y := d.ty.setWidth 32,
          z := (d.tz ||| BitVec.ofNat 16 (256 * b.toNat)).setWidth 32 }

/-- 42_frame_decoder.md R200: a step taken inside a decode never writes the value "none" into a code register nor the
sentinel into the position, and changes nothing but the decoder's outputs and transients, the turns, and `mask` and
`drLineMode`, which only an interrupt changes: `ready`, the enables, the bus address, the pins, the parameters, the calls
and the result stay. -/
def Obligations.DecoderNeverClears : Prop :=
  ∀ (s t : State) (d : Decode), s.phase = .decoding d → step s = .next t →
    (t.lastSwipeCode = s.lastSwipeCode ∨ t.lastSwipeCode ≠ 0x00#8) ∧
    (t.lastTapCode = s.lastTapCode ∨ t.lastTapCode ≠ 0x00#8) ∧
    (t.lastGenericEventCode = s.lastGenericEventCode ∨ t.lastGenericEventCode ≠ 0x00#8) ∧
    (t.lastPosition = s.lastPosition ∨
      (t.lastPosition.x ≠ -1 ∧ t.lastPosition.y ≠ -1 ∧ t.lastPosition.z ≠ -1)) ∧
    t = { s with
      lastSwipeCode := t.lastSwipeCode, lastTapCode := t.lastTapCode, lastGenericEventCode := t.lastGenericEventCode,
      lastPosition := t.lastPosition, airWheelAccumulator := t.airWheelAccumulator, frameCount := t.frameCount,
      buf := t.buf, phase := t.phase, turns := t.turns, mask := t.mask, drLineMode := t.drLineMode } ∧
    ((∃ s', svcMoves s = some s') → t.mask = s.mask ∧ t.drLineMode = s.drLineMode)

/-- 42_frame_decoder.md R200: a decode ends, after at most 32 bytes and the step that ends it. -/
def Obligations.DecodeEnds : Prop :=
  ∀ (s : State) (d : Decode), s.phase = .decoding d → s.turns = [] → ∃ k t,
    k ≤ 33 ∧ runFor k s = .next t ∧ ∀ d', t.phase ≠ .decoding d'

/-- 42_frame_decoder.md R170 to R204: a whole `decodeFrame`, uninterrupted, takes one step to start, one for each of the
`min(n, 32, bound)` bytes consumed and one to end, and leaves every register as its own byte of the frame says. -/
def Obligations.WholeDecodeFollowsTheOffsetTable : Prop :=
  ∀ (s : State) (f : Frame), s.phase = .calling f → s.turns = [] →
    runFor (consumed s.params f + 2) s = .next { decoded f s with phase := .rearm (decodedEvents f s) }

/-- 41_service.md R150, data-ready path: a whole `service`, uninterrupted, clears bit 0 and no other, decodes one frame,
re-arms the line and answers whether an event was recognized. -/
def Obligations.WholeServiceDecodesOneFrame : Prop :=
  ∀ (s : State) (o : Operands) (rest : List Packet), s.phase = .idle → s.turns = [] →
    s.params.select = .snapshot → s.program = ⟨0x30#8, o⟩ :: rest → pendingIn s.mask .dataReady = true →
    runFor (consumed s.params o.frame + 5) s =
      .next { decoded o.frame s with
        program := rest
        constructionDone := true
        mask := s.mask &&& 0xFE#8
        drLineMode := .sense
        result := .value (if decodedEvents o.frame s = 0 then 0 else 1) }

/-- 41_service.md R156: a whole `service` on a gesture path clears the bit, answers 1, and does nothing else. -/
def Obligations.WholeServiceOfAGestureLine : Prop :=
  ∀ (s : State) (o : Operands) (rest : List Packet) (l : Line), s.phase = .idle → s.turns = [] →
    s.params.select = .snapshot → s.program = ⟨0x30#8, o⟩ :: rest → l ≠ .dataReady →
    pendingIn s.mask l = true → (∀ k, lineBit k < lineBit l → pendingIn s.mask k = false) →
    runFor 2 s =
      .next { s with program := rest, mask := maskClear s.mask l, result := .value 1, constructionDone := true }

/-- 42_frame_decoder.md R202: a transfer that ends after offset 10 leaves tap, air wheel and position as they were, and
`decodeFrame` returns to `service` the events of offset 10 alone. -/
def Obligations.TransferEndingAfterOffset10 : Prop :=
  ∀ (s : State) (f : Frame) (b : Byte), s.phase = .calling f → s.turns = [] →
    consumed s.params f = 11 → f[10]? = some b → ∃ t,
    runFor 13 s = .next t ∧ t.lastTapCode = s.lastTapCode ∧ t.airWheelAccumulator = s.airWheelAccumulator ∧
    t.lastPosition = s.lastPosition ∧ t.phase = .rearm (if 1 < b.toNat then 1 else 0)

/-- 42_frame_decoder.md R201: with the position-valid bit clear, or offset 7 not reached, or fewer than 26 bytes consumed,
`lastPosition` after the decode equals `lastPosition` before it. -/
def Obligations.PositionIsGatedByItsFlag : Prop :=
  ∀ (s : State) (f : Frame), s.phase = .calling f → s.turns = [] →
    ((∀ b, f[7]? = some b → b.toNat % 2 = 0) ∨ consumed s.params f < 26) → ∃ t events,
    runFor (consumed s.params f + 2) s = .next t ∧ t.phase = .rearm events ∧ t.lastPosition = s.lastPosition
end

