-- ==== Sys2Proof/Laws/State.lean ====
section
/-! SUPPORT. One lemma per field per named update of the state. -/

namespace Sys2Proof.Machine

section setPending

@[simp] theorem setPending_busAddress (l : Line) (s : State) : (setPending l s).busAddress = s.busAddress := rfl
@[simp] theorem setPending_dataReadyPin (l : Line) (s : State) : (setPending l s).dataReadyPin = s.dataReadyPin := rfl
@[simp] theorem setPending_resetPin (l : Line) (s : State) : (setPending l s).resetPin = s.resetPin := rfl
@[simp] theorem setPending_gestureIrqPins (l : Line) (s : State) : (setPending l s).gestureIrqPins = s.gestureIrqPins := rfl
@[simp] theorem setPending_mask (l : Line) (s : State) : (setPending l s).mask = maskSet s.mask l := rfl
@[simp] theorem setPending_lastPosition (l : Line) (s : State) : (setPending l s).lastPosition = s.lastPosition := rfl
@[simp] theorem setPending_lastSwipeCode (l : Line) (s : State) : (setPending l s).lastSwipeCode = s.lastSwipeCode := rfl
@[simp] theorem setPending_lastTapCode (l : Line) (s : State) : (setPending l s).lastTapCode = s.lastTapCode := rfl
@[simp] theorem setPending_lastGenericEventCode (l : Line) (s : State) : (setPending l s).lastGenericEventCode = s.lastGenericEventCode := rfl
@[simp] theorem setPending_airWheelAccumulator (l : Line) (s : State) : (setPending l s).airWheelAccumulator = s.airWheelAccumulator := rfl
@[simp] theorem setPending_frameCount (l : Line) (s : State) : (setPending l s).frameCount = s.frameCount := rfl
@[simp] theorem setPending_ready (l : Line) (s : State) : (setPending l s).ready = s.ready := rfl
@[simp] theorem setPending_lineEnabled (l : Line) (s : State) : (setPending l s).lineEnabled = s.lineEnabled := rfl
@[simp] theorem setPending_drLineMode (l : Line) (s : State) : (setPending l s).drLineMode = s.drLineMode := rfl
@[simp] theorem setPending_buf (l : Line) (s : State) : (setPending l s).buf = s.buf := rfl
@[simp] theorem setPending_phase (l : Line) (s : State) : (setPending l s).phase = s.phase := rfl
@[simp] theorem setPending_constructionDone (l : Line) (s : State) : (setPending l s).constructionDone = s.constructionDone := rfl
@[simp] theorem setPending_params (l : Line) (s : State) : (setPending l s).params = s.params := rfl
@[simp] theorem setPending_turns (l : Line) (s : State) : (setPending l s).turns = s.turns := rfl
@[simp] theorem setPending_program (l : Line) (s : State) : (setPending l s).program = s.program := rfl
@[simp] theorem setPending_result (l : Line) (s : State) : (setPending l s).result = s.result := rfl
@[simp] theorem setPending_issued (l : Line) (s : State) : (setPending l s).issued = s.issued := rfl

end setPending

section clearPending

@[simp] theorem clearPending_busAddress (l : Line) (s : State) : (clearPending l s).busAddress = s.busAddress := rfl
@[simp] theorem clearPending_dataReadyPin (l : Line) (s : State) : (clearPending l s).dataReadyPin = s.dataReadyPin := rfl
@[simp] theorem clearPending_resetPin (l : Line) (s : State) : (clearPending l s).resetPin = s.resetPin := rfl
@[simp] theorem clearPending_gestureIrqPins (l : Line) (s : State) : (clearPending l s).gestureIrqPins = s.gestureIrqPins := rfl
@[simp] theorem clearPending_mask (l : Line) (s : State) : (clearPending l s).mask = maskClear s.mask l := rfl
@[simp] theorem clearPending_lastPosition (l : Line) (s : State) : (clearPending l s).lastPosition = s.lastPosition := rfl
@[simp] theorem clearPending_lastSwipeCode (l : Line) (s : State) : (clearPending l s).lastSwipeCode = s.lastSwipeCode := rfl
@[simp] theorem clearPending_lastTapCode (l : Line) (s : State) : (clearPending l s).lastTapCode = s.lastTapCode := rfl
@[simp] theorem clearPending_lastGenericEventCode (l : Line) (s : State) : (clearPending l s).lastGenericEventCode = s.lastGenericEventCode := rfl
@[simp] theorem clearPending_airWheelAccumulator (l : Line) (s : State) : (clearPending l s).airWheelAccumulator = s.airWheelAccumulator := rfl
@[simp] theorem clearPending_frameCount (l : Line) (s : State) : (clearPending l s).frameCount = s.frameCount := rfl
@[simp] theorem clearPending_ready (l : Line) (s : State) : (clearPending l s).ready = s.ready := rfl
@[simp] theorem clearPending_lineEnabled (l : Line) (s : State) : (clearPending l s).lineEnabled = s.lineEnabled := rfl
@[simp] theorem clearPending_drLineMode (l : Line) (s : State) : (clearPending l s).drLineMode = s.drLineMode := rfl
@[simp] theorem clearPending_buf (l : Line) (s : State) : (clearPending l s).buf = s.buf := rfl
@[simp] theorem clearPending_phase (l : Line) (s : State) : (clearPending l s).phase = s.phase := rfl
@[simp] theorem clearPending_constructionDone (l : Line) (s : State) : (clearPending l s).constructionDone = s.constructionDone := rfl
@[simp] theorem clearPending_params (l : Line) (s : State) : (clearPending l s).params = s.params := rfl
@[simp] theorem clearPending_turns (l : Line) (s : State) : (clearPending l s).turns = s.turns := rfl
@[simp] theorem clearPending_program (l : Line) (s : State) : (clearPending l s).program = s.program := rfl
@[simp] theorem clearPending_result (l : Line) (s : State) : (clearPending l s).result = s.result := rfl
@[simp] theorem clearPending_issued (l : Line) (s : State) : (clearPending l s).issued = s.issued := rfl

end clearPending

section setDrLine

@[simp] theorem setDrLine_busAddress (m : DrLineMode) (s : State) : (setDrLine m s).busAddress = s.busAddress := rfl
@[simp] theorem setDrLine_dataReadyPin (m : DrLineMode) (s : State) : (setDrLine m s).dataReadyPin = s.dataReadyPin := rfl
@[simp] theorem setDrLine_resetPin (m : DrLineMode) (s : State) : (setDrLine m s).resetPin = s.resetPin := rfl
@[simp] theorem setDrLine_gestureIrqPins (m : DrLineMode) (s : State) : (setDrLine m s).gestureIrqPins = s.gestureIrqPins := rfl
@[simp] theorem setDrLine_mask (m : DrLineMode) (s : State) : (setDrLine m s).mask = s.mask := rfl
@[simp] theorem setDrLine_lastPosition (m : DrLineMode) (s : State) : (setDrLine m s).lastPosition = s.lastPosition := rfl
@[simp] theorem setDrLine_lastSwipeCode (m : DrLineMode) (s : State) : (setDrLine m s).lastSwipeCode = s.lastSwipeCode := rfl
@[simp] theorem setDrLine_lastTapCode (m : DrLineMode) (s : State) : (setDrLine m s).lastTapCode = s.lastTapCode := rfl
@[simp] theorem setDrLine_lastGenericEventCode (m : DrLineMode) (s : State) : (setDrLine m s).lastGenericEventCode = s.lastGenericEventCode := rfl
@[simp] theorem setDrLine_airWheelAccumulator (m : DrLineMode) (s : State) : (setDrLine m s).airWheelAccumulator = s.airWheelAccumulator := rfl
@[simp] theorem setDrLine_frameCount (m : DrLineMode) (s : State) : (setDrLine m s).frameCount = s.frameCount := rfl
@[simp] theorem setDrLine_ready (m : DrLineMode) (s : State) : (setDrLine m s).ready = s.ready := rfl
@[simp] theorem setDrLine_lineEnabled (m : DrLineMode) (s : State) : (setDrLine m s).lineEnabled = s.lineEnabled := rfl
@[simp] theorem setDrLine_drLineMode (m : DrLineMode) (s : State) : (setDrLine m s).drLineMode = m := rfl
@[simp] theorem setDrLine_buf (m : DrLineMode) (s : State) : (setDrLine m s).buf = s.buf := rfl
@[simp] theorem setDrLine_phase (m : DrLineMode) (s : State) : (setDrLine m s).phase = s.phase := rfl
@[simp] theorem setDrLine_constructionDone (m : DrLineMode) (s : State) : (setDrLine m s).constructionDone = s.constructionDone := rfl
@[simp] theorem setDrLine_params (m : DrLineMode) (s : State) : (setDrLine m s).params = s.params := rfl
@[simp] theorem setDrLine_turns (m : DrLineMode) (s : State) : (setDrLine m s).turns = s.turns := rfl
@[simp] theorem setDrLine_program (m : DrLineMode) (s : State) : (setDrLine m s).program = s.program := rfl
@[simp] theorem setDrLine_result (m : DrLineMode) (s : State) : (setDrLine m s).result = s.result := rfl
@[simp] theorem setDrLine_issued (m : DrLineMode) (s : State) : (setDrLine m s).issued = s.issued := rfl

end setDrLine

section goTo

@[simp] theorem goTo_busAddress (p : Phase) (s : State) : (goTo p s).busAddress = s.busAddress := rfl
@[simp] theorem goTo_dataReadyPin (p : Phase) (s : State) : (goTo p s).dataReadyPin = s.dataReadyPin := rfl
@[simp] theorem goTo_resetPin (p : Phase) (s : State) : (goTo p s).resetPin = s.resetPin := rfl
@[simp] theorem goTo_gestureIrqPins (p : Phase) (s : State) : (goTo p s).gestureIrqPins = s.gestureIrqPins := rfl
@[simp] theorem goTo_mask (p : Phase) (s : State) : (goTo p s).mask = s.mask := rfl
@[simp] theorem goTo_lastPosition (p : Phase) (s : State) : (goTo p s).lastPosition = s.lastPosition := rfl
@[simp] theorem goTo_lastSwipeCode (p : Phase) (s : State) : (goTo p s).lastSwipeCode = s.lastSwipeCode := rfl
@[simp] theorem goTo_lastTapCode (p : Phase) (s : State) : (goTo p s).lastTapCode = s.lastTapCode := rfl
@[simp] theorem goTo_lastGenericEventCode (p : Phase) (s : State) : (goTo p s).lastGenericEventCode = s.lastGenericEventCode := rfl
@[simp] theorem goTo_airWheelAccumulator (p : Phase) (s : State) : (goTo p s).airWheelAccumulator = s.airWheelAccumulator := rfl
@[simp] theorem goTo_frameCount (p : Phase) (s : State) : (goTo p s).frameCount = s.frameCount := rfl
@[simp] theorem goTo_ready (p : Phase) (s : State) : (goTo p s).ready = s.ready := rfl
@[simp] theorem goTo_lineEnabled (p : Phase) (s : State) : (goTo p s).lineEnabled = s.lineEnabled := rfl
@[simp] theorem goTo_drLineMode (p : Phase) (s : State) : (goTo p s).drLineMode = s.drLineMode := rfl
@[simp] theorem goTo_buf (p : Phase) (s : State) : (goTo p s).buf = s.buf := rfl
@[simp] theorem goTo_phase (p : Phase) (s : State) : (goTo p s).phase = p := rfl
@[simp] theorem goTo_constructionDone (p : Phase) (s : State) : (goTo p s).constructionDone = s.constructionDone := rfl
@[simp] theorem goTo_params (p : Phase) (s : State) : (goTo p s).params = s.params := rfl
@[simp] theorem goTo_turns (p : Phase) (s : State) : (goTo p s).turns = s.turns := rfl
@[simp] theorem goTo_program (p : Phase) (s : State) : (goTo p s).program = s.program := rfl
@[simp] theorem goTo_result (p : Phase) (s : State) : (goTo p s).result = s.result := rfl
@[simp] theorem goTo_issued (p : Phase) (s : State) : (goTo p s).issued = s.issued := rfl

end goTo

section returns

@[simp] theorem returns_busAddress (r : Result) (s : State) : (returns r s).busAddress = s.busAddress := rfl
@[simp] theorem returns_dataReadyPin (r : Result) (s : State) : (returns r s).dataReadyPin = s.dataReadyPin := rfl
@[simp] theorem returns_resetPin (r : Result) (s : State) : (returns r s).resetPin = s.resetPin := rfl
@[simp] theorem returns_gestureIrqPins (r : Result) (s : State) : (returns r s).gestureIrqPins = s.gestureIrqPins := rfl
@[simp] theorem returns_mask (r : Result) (s : State) : (returns r s).mask = s.mask := rfl
@[simp] theorem returns_lastPosition (r : Result) (s : State) : (returns r s).lastPosition = s.lastPosition := rfl
@[simp] theorem returns_lastSwipeCode (r : Result) (s : State) : (returns r s).lastSwipeCode = s.lastSwipeCode := rfl
@[simp] theorem returns_lastTapCode (r : Result) (s : State) : (returns r s).lastTapCode = s.lastTapCode := rfl
@[simp] theorem returns_lastGenericEventCode (r : Result) (s : State) : (returns r s).lastGenericEventCode = s.lastGenericEventCode := rfl
@[simp] theorem returns_airWheelAccumulator (r : Result) (s : State) : (returns r s).airWheelAccumulator = s.airWheelAccumulator := rfl
@[simp] theorem returns_frameCount (r : Result) (s : State) : (returns r s).frameCount = s.frameCount := rfl
@[simp] theorem returns_ready (r : Result) (s : State) : (returns r s).ready = s.ready := rfl
@[simp] theorem returns_lineEnabled (r : Result) (s : State) : (returns r s).lineEnabled = s.lineEnabled := rfl
@[simp] theorem returns_drLineMode (r : Result) (s : State) : (returns r s).drLineMode = s.drLineMode := rfl
@[simp] theorem returns_buf (r : Result) (s : State) : (returns r s).buf = s.buf := rfl
@[simp] theorem returns_phase (r : Result) (s : State) : (returns r s).phase = .idle := rfl
@[simp] theorem returns_constructionDone (r : Result) (s : State) : (returns r s).constructionDone = s.constructionDone := rfl
@[simp] theorem returns_params (r : Result) (s : State) : (returns r s).params = s.params := rfl
@[simp] theorem returns_turns (r : Result) (s : State) : (returns r s).turns = s.turns := rfl
@[simp] theorem returns_program (r : Result) (s : State) : (returns r s).program = s.program := rfl
@[simp] theorem returns_result (r : Result) (s : State) : (returns r s).result = r := rfl
@[simp] theorem returns_issued (r : Result) (s : State) : (returns r s).issued = s.issued := rfl

end returns

section issue

@[simp] theorem issue_busAddress (c : ExternalCall) (s : State) : (issue c s).busAddress = s.busAddress := rfl
@[simp] theorem issue_dataReadyPin (c : ExternalCall) (s : State) : (issue c s).dataReadyPin = s.dataReadyPin := rfl
@[simp] theorem issue_resetPin (c : ExternalCall) (s : State) : (issue c s).resetPin = s.resetPin := rfl
@[simp] theorem issue_gestureIrqPins (c : ExternalCall) (s : State) : (issue c s).gestureIrqPins = s.gestureIrqPins := rfl
@[simp] theorem issue_mask (c : ExternalCall) (s : State) : (issue c s).mask = s.mask := rfl
@[simp] theorem issue_lastPosition (c : ExternalCall) (s : State) : (issue c s).lastPosition = s.lastPosition := rfl
@[simp] theorem issue_lastSwipeCode (c : ExternalCall) (s : State) : (issue c s).lastSwipeCode = s.lastSwipeCode := rfl
@[simp] theorem issue_lastTapCode (c : ExternalCall) (s : State) : (issue c s).lastTapCode = s.lastTapCode := rfl
@[simp] theorem issue_lastGenericEventCode (c : ExternalCall) (s : State) : (issue c s).lastGenericEventCode = s.lastGenericEventCode := rfl
@[simp] theorem issue_airWheelAccumulator (c : ExternalCall) (s : State) : (issue c s).airWheelAccumulator = s.airWheelAccumulator := rfl
@[simp] theorem issue_frameCount (c : ExternalCall) (s : State) : (issue c s).frameCount = s.frameCount := rfl
@[simp] theorem issue_ready (c : ExternalCall) (s : State) : (issue c s).ready = s.ready := rfl
@[simp] theorem issue_lineEnabled (c : ExternalCall) (s : State) : (issue c s).lineEnabled = s.lineEnabled := rfl
@[simp] theorem issue_drLineMode (c : ExternalCall) (s : State) : (issue c s).drLineMode = s.drLineMode := rfl
@[simp] theorem issue_buf (c : ExternalCall) (s : State) : (issue c s).buf = s.buf := rfl
@[simp] theorem issue_phase (c : ExternalCall) (s : State) : (issue c s).phase = s.phase := rfl
@[simp] theorem issue_constructionDone (c : ExternalCall) (s : State) : (issue c s).constructionDone = s.constructionDone := rfl
@[simp] theorem issue_params (c : ExternalCall) (s : State) : (issue c s).params = s.params := rfl
@[simp] theorem issue_turns (c : ExternalCall) (s : State) : (issue c s).turns = s.turns := rfl
@[simp] theorem issue_program (c : ExternalCall) (s : State) : (issue c s).program = s.program := rfl
@[simp] theorem issue_result (c : ExternalCall) (s : State) : (issue c s).result = s.result := rfl
@[simp] theorem issue_issued (c : ExternalCall) (s : State) : (issue c s).issued = s.issued ++ [c] := rfl

end issue

section pastConstruction

@[simp] theorem pastConstruction_busAddress (s : State) : (pastConstruction s).busAddress = s.busAddress := rfl
@[simp] theorem pastConstruction_dataReadyPin (s : State) : (pastConstruction s).dataReadyPin = s.dataReadyPin := rfl
@[simp] theorem pastConstruction_resetPin (s : State) : (pastConstruction s).resetPin = s.resetPin := rfl
@[simp] theorem pastConstruction_gestureIrqPins (s : State) : (pastConstruction s).gestureIrqPins = s.gestureIrqPins := rfl
@[simp] theorem pastConstruction_mask (s : State) : (pastConstruction s).mask = s.mask := rfl
@[simp] theorem pastConstruction_lastPosition (s : State) : (pastConstruction s).lastPosition = s.lastPosition := rfl
@[simp] theorem pastConstruction_lastSwipeCode (s : State) : (pastConstruction s).lastSwipeCode = s.lastSwipeCode := rfl
@[simp] theorem pastConstruction_lastTapCode (s : State) : (pastConstruction s).lastTapCode = s.lastTapCode := rfl
@[simp] theorem pastConstruction_lastGenericEventCode (s : State) : (pastConstruction s).lastGenericEventCode = s.lastGenericEventCode := rfl
@[simp] theorem pastConstruction_airWheelAccumulator (s : State) : (pastConstruction s).airWheelAccumulator = s.airWheelAccumulator := rfl
@[simp] theorem pastConstruction_frameCount (s : State) : (pastConstruction s).frameCount = s.frameCount := rfl
@[simp] theorem pastConstruction_ready (s : State) : (pastConstruction s).ready = s.ready := rfl
@[simp] theorem pastConstruction_lineEnabled (s : State) : (pastConstruction s).lineEnabled = s.lineEnabled := rfl
@[simp] theorem pastConstruction_drLineMode (s : State) : (pastConstruction s).drLineMode = s.drLineMode := rfl
@[simp] theorem pastConstruction_buf (s : State) : (pastConstruction s).buf = s.buf := rfl
@[simp] theorem pastConstruction_phase (s : State) : (pastConstruction s).phase = s.phase := rfl
@[simp] theorem pastConstruction_constructionDone (s : State) : (pastConstruction s).constructionDone = true := rfl
@[simp] theorem pastConstruction_params (s : State) : (pastConstruction s).params = s.params := rfl
@[simp] theorem pastConstruction_turns (s : State) : (pastConstruction s).turns = s.turns := rfl
@[simp] theorem pastConstruction_program (s : State) : (pastConstruction s).program = s.program := rfl
@[simp] theorem pastConstruction_result (s : State) : (pastConstruction s).result = s.result := rfl
@[simp] theorem pastConstruction_issued (s : State) : (pastConstruction s).issued = s.issued := rfl

end pastConstruction

section cleaned

@[simp] theorem cleaned_busAddress (s : State) : (cleaned s).busAddress = s.busAddress := rfl
@[simp] theorem cleaned_dataReadyPin (s : State) : (cleaned s).dataReadyPin = s.dataReadyPin := rfl
@[simp] theorem cleaned_resetPin (s : State) : (cleaned s).resetPin = s.resetPin := rfl
@[simp] theorem cleaned_gestureIrqPins (s : State) : (cleaned s).gestureIrqPins = s.gestureIrqPins := rfl
@[simp] theorem cleaned_mask (s : State) : (cleaned s).mask = s.mask := rfl
@[simp] theorem cleaned_lastPosition (s : State) : (cleaned s).lastPosition = Position.invalid := rfl
@[simp] theorem cleaned_lastSwipeCode (s : State) : (cleaned s).lastSwipeCode = 0x00#8 := rfl
@[simp] theorem cleaned_lastTapCode (s : State) : (cleaned s).lastTapCode = 0x00#8 := rfl
@[simp] theorem cleaned_lastGenericEventCode (s : State) : (cleaned s).lastGenericEventCode = 0x00#8 := rfl
@[simp] theorem cleaned_airWheelAccumulator (s : State) : (cleaned s).airWheelAccumulator = 0#16 := rfl
@[simp] theorem cleaned_frameCount (s : State) : (cleaned s).frameCount = s.frameCount := rfl
@[simp] theorem cleaned_ready (s : State) : (cleaned s).ready = s.ready := rfl
@[simp] theorem cleaned_lineEnabled (s : State) : (cleaned s).lineEnabled = s.lineEnabled := rfl
@[simp] theorem cleaned_drLineMode (s : State) : (cleaned s).drLineMode = s.drLineMode := rfl
@[simp] theorem cleaned_buf (s : State) : (cleaned s).buf = s.buf := rfl
@[simp] theorem cleaned_phase (s : State) : (cleaned s).phase = s.phase := rfl
@[simp] theorem cleaned_constructionDone (s : State) : (cleaned s).constructionDone = s.constructionDone := rfl
@[simp] theorem cleaned_params (s : State) : (cleaned s).params = s.params := rfl
@[simp] theorem cleaned_turns (s : State) : (cleaned s).turns = s.turns := rfl
@[simp] theorem cleaned_program (s : State) : (cleaned s).program = s.program := rfl
@[simp] theorem cleaned_result (s : State) : (cleaned s).result = s.result := rfl
@[simp] theorem cleaned_issued (s : State) : (cleaned s).issued = s.issued := rfl

end cleaned

section begun

@[simp] theorem begun_busAddress (s : State) : (begun s).busAddress = s.busAddress := rfl
@[simp] theorem begun_dataReadyPin (s : State) : (begun s).dataReadyPin = s.dataReadyPin := rfl
@[simp] theorem begun_resetPin (s : State) : (begun s).resetPin = s.resetPin := rfl
@[simp] theorem begun_gestureIrqPins (s : State) : (begun s).gestureIrqPins = s.gestureIrqPins := rfl
@[simp] theorem begun_mask (s : State) : (begun s).mask = s.mask := rfl
@[simp] theorem begun_lastPosition (s : State) : (begun s).lastPosition = s.lastPosition := rfl
@[simp] theorem begun_lastSwipeCode (s : State) : (begun s).lastSwipeCode = s.lastSwipeCode := rfl
@[simp] theorem begun_lastTapCode (s : State) : (begun s).lastTapCode = s.lastTapCode := rfl
@[simp] theorem begun_lastGenericEventCode (s : State) : (begun s).lastGenericEventCode = s.lastGenericEventCode := rfl
@[simp] theorem begun_airWheelAccumulator (s : State) : (begun s).airWheelAccumulator = s.airWheelAccumulator := rfl
@[simp] theorem begun_frameCount (s : State) : (begun s).frameCount = s.frameCount := rfl
@[simp] theorem begun_ready (s : State) : (begun s).ready = true := rfl
@[simp] theorem begun_lineEnabled (s : State) : (begun s).lineEnabled = enableAssigned s.gestureIrqPins s.lineEnabled := rfl
@[simp] theorem begun_drLineMode (s : State) : (begun s).drLineMode = .sense := rfl
@[simp] theorem begun_buf (s : State) : (begun s).buf = s.buf := rfl
@[simp] theorem begun_phase (s : State) : (begun s).phase = s.phase := rfl
@[simp] theorem begun_constructionDone (s : State) : (begun s).constructionDone = s.constructionDone := rfl
@[simp] theorem begun_params (s : State) : (begun s).params = s.params := rfl
@[simp] theorem begun_turns (s : State) : (begun s).turns = s.turns := rfl
@[simp] theorem begun_program (s : State) : (begun s).program = s.program := rfl
@[simp] theorem begun_result (s : State) : (begun s).result = s.result := rfl
@[simp] theorem begun_issued (s : State) : (begun s).issued = s.issued ++ callbacks s ++ [.pulseReset s.resetPin] := rfl

end begun

/-! `construct`: what stays, and what it stores; every other field is the reset state's. -/

@[simp] theorem constructed_busAddress (dr rst : PinId) (addr : BusAddress) (s : State) : (constructed dr rst addr s).busAddress = addr := rfl
@[simp] theorem constructed_dataReadyPin (dr rst : PinId) (addr : BusAddress) (s : State) : (constructed dr rst addr s).dataReadyPin = dr := rfl
@[simp] theorem constructed_resetPin (dr rst : PinId) (addr : BusAddress) (s : State) : (constructed dr rst addr s).resetPin = rst := rfl
@[simp] theorem constructed_gestureIrqPins (dr rst : PinId) (addr : BusAddress) (s : State) : (constructed dr rst addr s).gestureIrqPins = #v[none, none, none, none] := rfl
@[simp] theorem constructed_mask (dr rst : PinId) (addr : BusAddress) (s : State) : (constructed dr rst addr s).mask = 0x00#8 := rfl
@[simp] theorem constructed_lastPosition (dr rst : PinId) (addr : BusAddress) (s : State) : (constructed dr rst addr s).lastPosition = Position.invalid := rfl
@[simp] theorem constructed_lastSwipeCode (dr rst : PinId) (addr : BusAddress) (s : State) : (constructed dr rst addr s).lastSwipeCode = 0x00#8 := rfl
@[simp] theorem constructed_lastTapCode (dr rst : PinId) (addr : BusAddress) (s : State) : (constructed dr rst addr s).lastTapCode = 0x00#8 := rfl
@[simp] theorem constructed_lastGenericEventCode (dr rst : PinId) (addr : BusAddress) (s : State) : (constructed dr rst addr s).lastGenericEventCode = 0x00#8 := rfl
@[simp] theorem constructed_airWheelAccumulator (dr rst : PinId) (addr : BusAddress) (s : State) : (constructed dr rst addr s).airWheelAccumulator = 0#16 := rfl
@[simp] theorem constructed_frameCount (dr rst : PinId) (addr : BusAddress) (s : State) : (constructed dr rst addr s).frameCount = 0#32 := rfl
@[simp] theorem constructed_ready (dr rst : PinId) (addr : BusAddress) (s : State) : (constructed dr rst addr s).ready = false := rfl
@[simp] theorem constructed_lineEnabled (dr rst : PinId) (addr : BusAddress) (s : State) : (constructed dr rst addr s).lineEnabled = 0#5 := rfl
@[simp] theorem constructed_drLineMode (dr rst : PinId) (addr : BusAddress) (s : State) : (constructed dr rst addr s).drLineMode = .sense := rfl
@[simp] theorem constructed_buf (dr rst : PinId) (addr : BusAddress) (s : State) : (constructed dr rst addr s).buf = [] := rfl
@[simp] theorem constructed_phase (dr rst : PinId) (addr : BusAddress) (s : State) : (constructed dr rst addr s).phase = .idle := rfl
@[simp] theorem constructed_constructionDone (dr rst : PinId) (addr : BusAddress) (s : State) : (constructed dr rst addr s).constructionDone = true := rfl
@[simp] theorem constructed_params (dr rst : PinId) (addr : BusAddress) (s : State) : (constructed dr rst addr s).params = s.params := rfl
@[simp] theorem constructed_turns (dr rst : PinId) (addr : BusAddress) (s : State) : (constructed dr rst addr s).turns = s.turns := rfl
@[simp] theorem constructed_program (dr rst : PinId) (addr : BusAddress) (s : State) : (constructed dr rst addr s).program = s.program := rfl
@[simp] theorem constructed_result (dr rst : PinId) (addr : BusAddress) (s : State) : (constructed dr rst addr s).result = .none := rfl
@[simp] theorem constructed_issued (dr rst : PinId) (addr : BusAddress) (s : State) : (constructed dr rst addr s).issued = s.issued := rfl

end Sys2Proof.Machine
end

