-- ==== Sys2Proof/Laws/Ops.lean ====
section
/-! SUPPORT. What each shared operation can do, said once: later proofs cite these and do not unfold the operation. -/

namespace Sys2Proof.Machine

/-! ### The frame buffer -/

theorem Memory.ofBytesAt_length (k : Nat) (bs : List Byte) : (Memory.ofBytesAt k bs).length = bs.length := by
  induction bs generalizing k with
  | nil => rfl
  | cons b bs ih => simp [Memory.ofBytesAt, ih]

theorem Memory.ofBytesAt_offsets (k : Nat) (bs : List Byte) :
    (Memory.ofBytesAt k bs).map Prod.fst = List.range' k bs.length := by
  induction bs generalizing k with
  | nil => rfl
  | cons b bs ih => simp [Memory.ofBytesAt, ih, List.range'_succ]

theorem Memory.lookup_ofBytesAt (k j : Nat) (bs : List Byte) :
    (Memory.ofBytesAt k bs).lookup (k + j) = bs[j]? := by
  induction bs generalizing k j with
  | nil => simp [Memory.ofBytesAt]
  | cons b bs ih =>
    cases j with
    | zero => simp [Memory.ofBytesAt]
    | succ j =>
      have h : (k + (j + 1) == k) = false := by simp
      have hk : k + (j + 1) = k + 1 + j := by omega
      simp [Memory.ofBytesAt, List.lookup_cons, h]
      rw [hk, ih]

/-- The bytes delivered, at their offsets; none elsewhere. -/
theorem Memory.read_ofBytes (bs : List Byte) (k : Nat) : Memory.read (Memory.ofBytes bs) k = bs[k]? := by
  have h := Memory.lookup_ofBytesAt 0 k bs
  rw [Nat.zero_add] at h
  unfold Memory.read Memory.ofBytes
  rw [h]
  cases bs[k]? <;> rfl

@[simp] theorem Memory.ofBytes_length (bs : List Byte) : (Memory.ofBytes bs).length = bs.length :=
  Memory.ofBytesAt_length 0 bs

/-- A buffer made of bytes is in the canonical form. -/
theorem Memory.ofBytes_wf (bs : List Byte) : Memory.wf (Memory.ofBytes bs) := by
  unfold Memory.wf
  rw [Memory.ofBytes_length, Memory.ofBytes, Memory.ofBytesAt_offsets, List.range_eq_range']

/-- The empty buffer is in the canonical form. -/
theorem Memory.nil_wf : Memory.wf [] := rfl

/-- In the canonical form the offsets rise strictly. -/
theorem Memory.wf_strictly_rising {m : Memory} (h : Memory.wf m) : (m.map Prod.fst).Pairwise (· < ·) := by
  rw [h]; exact List.pairwise_lt_range

/-- The empty buffer has no byte. -/
@[simp] theorem Memory.read_nil (k : Nat) : Memory.read [] k = none := rfl

/-- A transfer is in the canonical form. -/
theorem transfer_wf (n : Nat) (f : Frame) : Memory.wf (transfer n f) := Memory.ofBytes_wf _

/-- A transfer has at most the bytes asked for. -/
theorem transfer_length (n : Nat) (f : Frame) : (transfer n f).length = min n f.length := by
  simp [transfer]

/-- What a transfer reads as: the delivered bytes below the maximum. -/
theorem Memory.read_transfer (n : Nat) (f : Frame) (k : Nat) :
    Memory.read (transfer n f) k = if k < n then f[k]? else none := by
  rw [transfer, Memory.read_ofBytes, List.getElem?_take]

/-! ### The marker register -/

/-- A set bit after `maskSet`: the line's own, or one that was set. -/
theorem pendingIn_maskSet (m : BitVec 8) (l k : Line) :
    pendingIn (maskSet m l) k = (pendingIn m k || decide (k = l)) := by
  cases l <;> cases k <;> simp [pendingIn, maskSet, lineFlag, lineBit]

/-- A set bit after `maskClear`: one that was set, and not the line's own. -/
theorem pendingIn_maskClear (m : BitVec 8) (l k : Line) :
    pendingIn (maskClear m l) k = (pendingIn m k && decide (k ≠ l)) := by
  cases l <;> cases k <;> simp [pendingIn, maskClear, lineFlag, lineBit]

/-- A whole-byte read shows the five pending bits as they are. -/
theorem pendingIn_readableMask (m : BitVec 8) (l : Line) : pendingIn (readableMask m) l = pendingIn m l := by
  cases l <;> simp [pendingIn, readableMask, lineBit]

/-- What `firstPending` answers: a pending line of which every line before is not pending, or none at all. -/
theorem firstPending_cases (m : BitVec 8) :
    (∃ l, firstPending m = some l ∧ pendingIn m l = true ∧ ∀ k, lineBit k < lineBit l → pendingIn m k = false) ∨
    (firstPending m = none ∧ ∀ l, pendingIn m l = false) := by
  unfold firstPending
  split
  · exact .inl ⟨.dataReady, rfl, by assumption, fun k hk => by cases k <;> simp [lineBit] at hk⟩
  split
  · exact .inl ⟨.gesture0, rfl, by assumption, fun k hk => by cases k <;> simp_all [lineBit]⟩
  split
  · exact .inl ⟨.gesture1, rfl, by assumption, fun k hk => by cases k <;> simp_all [lineBit]⟩
  split
  · exact .inl ⟨.gesture2, rfl, by assumption, fun k hk => by cases k <;> simp_all [lineBit]⟩
  split
  · exact .inl ⟨.gesture3, rfl, by assumption, fun k hk => by cases k <;> simp_all [lineBit]⟩
  · exact .inr ⟨rfl, fun l => by cases l <;> simp_all⟩

/-- Enabling a line sets its bit and no other. -/
theorem enabledIn_enable (e : BitVec 5) (l k : Line) :
    enabledIn (enable e l) k = (enabledIn e k || decide (k = l)) := by
  cases l <;> cases k <;> simp [enabledIn, enable, lineBit]

/-! ### The shapes of the meanings -/

/-- An operation of agent SVC answers next only when none was in progress. -/
theorem svcOp_eq_next {s t : State} {k : State → Host.Outcome State Fault Refusal} :
    svcOp s k = .next t ↔ s.phase = .idle ∧ k (pastConstruction s) = .next t := by
  unfold svcOp; split <;> simp_all

@[simp] theorem svcOp_of_idle {s : State} (h : s.phase = .idle) (k : State → Host.Outcome State Fault Refusal) :
    svcOp s k = k (pastConstruction s) := by
  simp [svcOp, h]

@[simp] theorem svcOp_of_busy {s : State} (h : s.phase ≠ .idle) (k : State → Host.Outcome State Fault Refusal) :
    svcOp s k = .refused .secondServiceThread := by
  simp [svcOp, h]

/-- A read-only operation answers next only when agent SVC is idle, and writes the result only (the construction is past). -/
theorem answer_eq_next {s t : State} {r : State → Result} :
    answer r s = .next t ↔ s.phase = .idle ∧ t = returns (r (pastConstruction s)) (pastConstruction s) := by
  rw [answer, svcOp_eq_next]
  simp [eq_comm]

/-- `markPending` answers next only on an enabled line. -/
theorem markLine_eq_next {l : Line} {also : State → State} {s t : State} :
    markLine l also s = .next t ↔ enabledIn s.lineEnabled l = true ∧ t = also (setPending l s) := by
  unfold markLine
  split
  · rename_i h
    exact ⟨fun e => ⟨h, (Host.Outcome.next.inj e).symm⟩, fun e => by rw [e.2]⟩
  · rename_i h
    exact ⟨fun e => (by cases e), fun e => absurd e.1 h⟩

/-- A byte handler answers next only when a decode stands at its offset. -/
theorem handleByte_eq_next {k : Nat} {write : Decode → State → State} {change : Decode → Decode} {s t : State} :
    handleByte k write change s = .next t ↔
      ∃ d, s.phase = .decoding d ∧ d.off = k ∧
        t = goTo (.decoding { change d with off := d.off + 1 }) (write d s) := by
  unfold handleByte
  split
  · rename_i d h
    split
    · rename_i hk
      constructor
      · intro e; exact ⟨d, h, hk, (Host.Outcome.next.inj e).symm⟩
      · rintro ⟨d', h', -, rfl⟩
        rw [h] at h'; cases h'; rfl
    · rename_i hk
      constructor
      · intro e; cases e
      · rintro ⟨d', h', hk', -⟩
        rw [h] at h'; cases h'; exact absurd hk' hk
  · rename_i h
    constructor
    · intro e; cases e
    · rintro ⟨d, hp, -⟩; exact absurd hp (h d)

/-- A byte handler at its own offset. -/
theorem handleByte_of_decoding {k : Nat} {write : Decode → State → State} {change : Decode → Decode} {s : State}
    {d : Decode} (h : s.phase = .decoding d) (hk : d.off = k) :
    handleByte k write change s = .next (goTo (.decoding { change d with off := k + 1 }) (write d s)) := by
  simp [handleByte, h, hk]

/-- A byte handler anywhere else. -/
theorem handleByte_elsewhere {k : Nat} {write : Decode → State → State} {change : Decode → Decode} {s : State}
    (h : ∀ d, s.phase = .decoding d → d.off ≠ k) :
    handleByte k write change s = .refused (.decoderNotAt k) := by
  unfold handleByte
  split
  · rename_i d hp; simp [h d hp]
  · rfl

/-! ### The step -/

/-- A step that answers next either ran the fetched instruction or took the fetched step. -/
theorem step_eq_next {s t : State} (h : step s = .next t) :
    (∃ i s', fetch s = .run i s' ∧ exec i s' = .next t) ∨ fetch s = .moved t := by
  unfold step at h
  split at h
  · rename_i i s' hf; exact .inl ⟨i, s', hf, h⟩
  · rename_i s' hf; simp_all
  · simp at h

/-- A callback's edge: the instruction run is the `markPending` of an enabled line, in the very state; or nothing. -/
theorem fetchIrq_cases (w : Byte) (s : State) :
    (∃ i l, decode (.op ⟨w, Operands.zero⟩) = .ok i ∧ i.agent = .irq l ∧
      ((lineFires s l = true ∧ fetchIrq w s = .run i s) ∨ (lineFires s l = false ∧ fetchIrq w s = .moved s))) ∨
    (∃ r, fetchIrq w s = .stopped r) := by
  unfold fetchIrq
  split
  · exact .inr ⟨_, rfl⟩
  · rename_i i hi
    split
    · rename_i l hl
      cases hf : lineFires s l with
      | true => exact .inl ⟨i, l, hi, hl, .inl ⟨hf, by simp⟩⟩
      | false => exact .inl ⟨i, l, hi, hl, .inr ⟨hf, by simp⟩⟩
    · exact .inr ⟨_, rfl⟩
    · exact .inr ⟨_, rfl⟩

/-- The caller's next call, or waiting for one. -/
theorem fetchCall_cases (s : State) :
    (s.program = [] ∧ fetchCall s = .moved s) ∨
    (∃ p ps i, s.program = p :: ps ∧ decode (.op p) = .ok i ∧ i.agent = .svc ∧
      fetchCall s = .run i { s with program := ps }) ∨
    (∃ r, fetchCall s = .stopped r) := by
  unfold fetchCall
  split
  · exact .inl ⟨by assumption, rfl⟩
  · rename_i p ps hp
    split
    · exact .inr (.inr ⟨_, rfl⟩)
    · rename_i i hi
      split
      · exact .inr (.inl ⟨p, ps, i, hp, hi, by assumption, rfl⟩)
      · exact .inr (.inr ⟨_, rfl⟩)
      · exact .inr (.inr ⟨_, rfl⟩)

/-- The next frame byte, or the end of the decode. -/
theorem fetchByte_cases (d : Decode) (s : State) :
    (nextByte d s = none ∧ fetchByte d s = .moved (finishDecode d s)) ∨
    (∃ b i, nextByte d s = some b ∧ decode (.frame d.off b) = .ok i ∧ fetchByte d s = .run i s) ∨
    (∃ r, fetchByte d s = .stopped r) := by
  unfold fetchByte
  split
  · exact .inl ⟨by assumption, rfl⟩
  · rename_i b hb
    split
    · rename_i i hi; exact .inr (.inl ⟨b, i, hb, hi, rfl⟩)
    · exact .inr (.inr ⟨_, rfl⟩)

/-- Offsets 0 to 31 each have a handler, the one that encodes back to that offset and byte. -/
theorem decodeByte_of_lt {off : Nat} (h : off < 32) (b : Byte) :
    ∃ i, decodeByte off b = .ok i ∧ encode i = .frame off b := by
  interval_cases off <;> exact ⟨_, rfl, rfl⟩

/-- What `nextByte` answers: a byte of the buffer, below both bounds. -/
theorem nextByte_eq_some {d : Decode} {s : State} {b : Byte} :
    nextByte d s = some b ↔ d.off < d.expected ∧ d.off < maxRequest ∧ Memory.read s.buf d.off = some b := by
  unfold nextByte
  split <;> simp_all

end Sys2Proof.Machine
end

