-- ==== Sys2Proof/Laws/PerInstr.lean ====
section
/-! SUPPORT. A statement about every instruction as syntax: its encoding lies in the format of its row of
spec/opcode_table.json and matches that row's mask and match. -/

namespace Sys2Proof.Laws.MatchesTableRow

/-- A row of the table: whether its format is OP (keyed on the command word) or FRAME (keyed on the offset counter), its
match and its mask. -/
structure Row where
  isOp : Bool
  pattern : Nat
  mask : Nat
  deriving DecidableEq, Repr

/-- The row of each instruction, copied from the table. -/
def rowOf : Instr → Row
  | .construct _ _ _ => ⟨true, 0x00, 0xFF⟩
  | .setGestureIrqPin _ _ => ⟨true, 0x10, 0xFF⟩
  | .beginOp => ⟨true, 0x20, 0xFF⟩
  | .service _ => ⟨true, 0x30, 0xFF⟩
  | .markClean => ⟨true, 0x40, 0xFF⟩
  | .readRegX => ⟨true, 0x50, 0xFF⟩
  | .readRegY => ⟨true, 0x51, 0xFF⟩
  | .readRegZ => ⟨true, 0x52, 0xFF⟩
  | .readRegSwipe => ⟨true, 0x53, 0xFF⟩
  | .readRegTap => ⟨true, 0x54, 0xFF⟩
  | .readRegGeneric => ⟨true, 0x55, 0xFF⟩
  | .readRegAirwheel => ⟨true, 0x56, 0xFF⟩
  | .readRegFramecount => ⟨true, 0x57, 0xFF⟩
  | .eventCodeToLabel _ => ⟨true, 0x60, 0xFF⟩
  | .dump => ⟨true, 0x70, 0xFF⟩
  | .markPendingDR => ⟨true, 0x80, 0xFF⟩
  | .markPendingG0 => ⟨true, 0x81, 0xFF⟩
  | .markPendingG1 => ⟨true, 0x82, 0xFF⟩
  | .markPendingG2 => ⟨true, 0x83, 0xFF⟩
  | .markPendingG3 => ⟨true, 0x84, 0xFF⟩
  | .decodeFrame _ => ⟨true, 0x90, 0xFF⟩
  | .frame0 _ => ⟨false, 0x00, 0x1F⟩
  | .frame1 _ => ⟨false, 0x01, 0x1F⟩
  | .frame2 _ => ⟨false, 0x02, 0x1F⟩
  | .frame3 _ => ⟨false, 0x03, 0x1F⟩
  | .frame4 _ => ⟨false, 0x04, 0x1F⟩
  | .frame5 _ => ⟨false, 0x05, 0x1F⟩
  | .frame6 _ => ⟨false, 0x06, 0x1F⟩
  | .frame7 _ => ⟨false, 0x07, 0x1F⟩
  | .frame8 _ => ⟨false, 0x08, 0x1F⟩
  | .frame9 _ => ⟨false, 0x09, 0x1F⟩
  | .frame10 _ => ⟨false, 0x0A, 0x1F⟩
  | .frame11 _ => ⟨false, 0x0B, 0x1F⟩
  | .frame12 _ => ⟨false, 0x0C, 0x1F⟩
  | .frame13 _ => ⟨false, 0x0D, 0x1F⟩
  | .frame14 _ => ⟨false, 0x0E, 0x1F⟩
  | .frame15 _ => ⟨false, 0x0F, 0x1F⟩
  | .frame16 _ => ⟨false, 0x10, 0x1F⟩
  | .frame17 _ => ⟨false, 0x11, 0x1F⟩
  | .frame18 _ => ⟨false, 0x12, 0x1F⟩
  | .frame19 _ => ⟨false, 0x13, 0x1F⟩
  | .frame20 _ => ⟨false, 0x14, 0x1F⟩
  | .frame21 _ => ⟨false, 0x15, 0x1F⟩
  | .frame22 _ => ⟨false, 0x16, 0x1F⟩
  | .frame23 _ => ⟨false, 0x17, 0x1F⟩
  | .frame24 _ => ⟨false, 0x18, 0x1F⟩
  | .frame25 _ => ⟨false, 0x19, 0x1F⟩
  | .frame26 _ => ⟨false, 0x1A, 0x1F⟩
  | .frame27 _ => ⟨false, 0x1B, 0x1F⟩
  | .frame28 _ => ⟨false, 0x1C, 0x1F⟩
  | .frame29 _ => ⟨false, 0x1D, 0x1F⟩
  | .frame30 _ => ⟨false, 0x1E, 0x1F⟩
  | .frame31 _ => ⟨false, 0x1F, 0x1F⟩

/-- Whether an encoding is in a row's format and its key matches the row. -/
def matchesRow (r : Row) : Code → Bool
  | .op p => r.isOp && p.word.toNat &&& r.mask == r.pattern
  | .frame off _ => !r.isOp && off &&& r.mask == r.pattern

/-- The statement about one instruction. -/
def Statement (i : Instr) : Prop := matchesRow (rowOf i) (encode i) = true

/-- The one proof; the lemmas below are its instances, one per constructor. -/
theorem holds (i : Instr) : Statement i := by
  cases i <;> simp [Statement, matchesRow, rowOf, encode]

theorem construct (a b : PinId) (c : BusAddress) : Statement (.construct a b c) := holds _
theorem setGestureIrqPin (i : Int) (p : PinId) : Statement (.setGestureIrqPin i p) := holds _
theorem beginOp : Statement .beginOp := holds _
theorem service (f : Frame) : Statement (.service f) := holds _
theorem markClean : Statement .markClean := holds _
theorem readRegX : Statement .readRegX := holds _
theorem readRegY : Statement .readRegY := holds _
theorem readRegZ : Statement .readRegZ := holds _
theorem readRegSwipe : Statement .readRegSwipe := holds _
theorem readRegTap : Statement .readRegTap := holds _
theorem readRegGeneric : Statement .readRegGeneric := holds _
theorem readRegAirwheel : Statement .readRegAirwheel := holds _
theorem readRegFramecount : Statement .readRegFramecount := holds _
theorem eventCodeToLabel (c : Byte) : Statement (.eventCodeToLabel c) := holds _
theorem dump : Statement .dump := holds _
theorem markPendingDR : Statement .markPendingDR := holds _
theorem markPendingG0 : Statement .markPendingG0 := holds _
theorem markPendingG1 : Statement .markPendingG1 := holds _
theorem markPendingG2 : Statement .markPendingG2 := holds _
theorem markPendingG3 : Statement .markPendingG3 := holds _
theorem decodeFrame (f : Frame) : Statement (.decodeFrame f) := holds _
theorem frame0 (b : Byte) : Statement (.frame0 b) := holds _
theorem frame1 (b : Byte) : Statement (.frame1 b) := holds _
theorem frame2 (b : Byte) : Statement (.frame2 b) := holds _
theorem frame3 (b : Byte) : Statement (.frame3 b) := holds _
theorem frame4 (b : Byte) : Statement (.frame4 b) := holds _
theorem frame5 (b : Byte) : Statement (.frame5 b) := holds _
theorem frame6 (b : Byte) : Statement (.frame6 b) := holds _
theorem frame7 (b : Byte) : Statement (.frame7 b) := holds _
theorem frame8 (b : Byte) : Statement (.frame8 b) := holds _
theorem frame9 (b : Byte) : Statement (.frame9 b) := holds _
theorem frame10 (b : Byte) : Statement (.frame10 b) := holds _
theorem frame11 (b : Byte) : Statement (.frame11 b) := holds _
theorem frame12 (b : Byte) : Statement (.frame12 b) := holds _
theorem frame13 (b : Byte) : Statement (.frame13 b) := holds _
theorem frame14 (b : Byte) : Statement (.frame14 b) := holds _
theorem frame15 (b : Byte) : Statement (.frame15 b) := holds _
theorem frame16 (b : Byte) : Statement (.frame16 b) := holds _
theorem frame17 (b : Byte) : Statement (.frame17 b) := holds _
theorem frame18 (b : Byte) : Statement (.frame18 b) := holds _
theorem frame19 (b : Byte) : Statement (.frame19 b) := holds _
theorem frame20 (b : Byte) : Statement (.frame20 b) := holds _
theorem frame21 (b : Byte) : Statement (.frame21 b) := holds _
theorem frame22 (b : Byte) : Statement (.frame22 b) := holds _
theorem frame23 (b : Byte) : Statement (.frame23 b) := holds _
theorem frame24 (b : Byte) : Statement (.frame24 b) := holds _
theorem frame25 (b : Byte) : Statement (.frame25 b) := holds _
theorem frame26 (b : Byte) : Statement (.frame26 b) := holds _
theorem frame27 (b : Byte) : Statement (.frame27 b) := holds _
theorem frame28 (b : Byte) : Statement (.frame28 b) := holds _
theorem frame29 (b : Byte) : Statement (.frame29 b) := holds _
theorem frame30 (b : Byte) : Statement (.frame30 b) := holds _
theorem frame31 (b : Byte) : Statement (.frame31 b) := holds _

end Sys2Proof.Laws.MatchesTableRow
end

