-- ==== Sys2Proof/Laws/Run.lean ====
section
/-! SUPPORT. Runs: how `runFor` unfolds, whose turn a step is, and what a callback's edge runs. -/

namespace Sys2Proof.Safety

open Sys2Proof.Machine

@[simp] theorem runFor_zero (s : State) : runFor 0 s = .next s := rfl

theorem runFor_next {k : Nat} {s t : State} (h : step s = .next t) : runFor (k + 1) s = runFor k t := by
  simp [runFor, h]

theorem runFor_refused {k : Nat} {s : State} {r : Refusal} (h : step s = .refused r) :
    runFor (k + 1) s = .refused r := by
  simp [runFor, h]

/-- A run of `j + k` steps is a run of `j` steps and then one of `k`. -/
theorem runFor_add {j k : Nat} {s t : State} (h : runFor j s = .next t) : runFor (j + k) s = runFor k t := by
  induction j generalizing s with
  | zero => cases h; simp
  | succ j ih =>
    unfold runFor at h
    split at h
    · rename_i u hu
      rw [Nat.add_right_comm, runFor_next hu, ih h]
    · cases h
    · cases h

theorem run_next (M : Host.Core) {k : Nat} {s t : M.State} (h : M.step s = .next t) :
    M.run (k + 1) s = M.run k t := by
  simp [Host.Core.run, h]

theorem run_refused (M : Host.Core) {k : Nat} {s : M.State} {r : M.Refusal} (h : M.step s = .refused r) :
    M.run (k + 1) s = .refused r := by
  simp [Host.Core.run, h]

/-- The runs of the statements are the host's runs of the machine. -/
theorem runFor_eq_run (k : Nat) (s : State) : runFor k s = Host.Core.run Sys2Proof.core k s := by
  induction k generalizing s with
  | zero => rfl
  | succ k ih =>
    cases h : step s with
    | next t => rw [runFor_next h, ih]; exact (run_next Sys2Proof.core h).symm
    | fault r => exact nomatch r
    | refused r => rw [runFor_refused h]; exact (run_refused Sys2Proof.core h).symm

/-! ### Whose turn it is -/

/-- A step of agent SVC only takes its turn off the list before it moves. -/
theorem svcMoves_eq_some {s s' : State} (h : svcMoves s = some s') : ∃ ts, s' = { s with turns := ts } := by
  unfold svcMoves at h
  split at h
  · cases h; exact ⟨s.turns, rfl⟩
  · cases h; exact ⟨_, rfl⟩
  · cases h

theorem svcMoves_of_no_turns {s : State} (h : s.turns = []) : svcMoves s = some s := by
  simp [svcMoves, h]

theorem fetch_of_svcMoves {s s' : State} (h : svcMoves s = some s') : fetch s = fetchSvc s' := by
  unfold svcMoves at h
  unfold fetch
  split at h <;> simp_all

/-- The next step is one of agent SVC, or a callback's edge. -/
theorem fetch_cases (s : State) :
    (∃ s', svcMoves s = some s' ∧ fetch s = fetchSvc s') ∨
    (∃ w ts, s.turns = .irq w :: ts ∧ fetch s = fetchIrq w { s with turns := ts }) := by
  cases h : s.turns with
  | nil => exact .inl ⟨s, svcMoves_of_no_turns h, by simp [fetch, h]⟩
  | cons u ts =>
    cases u with
    | irq w => exact .inr ⟨w, ts, rfl, by simp [fetch, h]⟩
    | svc => exact .inl ⟨{ s with turns := ts }, by simp [svcMoves, h], by simp [fetch, h]⟩

/-! ### What agent SVC fetches, by where it stands -/

/-- The state agent SVC moves in differs in the turns only. -/
theorem svcMoves_phase {s s' : State} (h : svcMoves s = some s') : s'.phase = s.phase := by
  obtain ⟨ts, rfl⟩ := svcMoves_eq_some h; rfl

theorem svcMoves_program {s s' : State} (h : svcMoves s = some s') : s'.program = s.program := by
  obtain ⟨ts, rfl⟩ := svcMoves_eq_some h; rfl

theorem fetchSvc_of_idle {s : State} (h : s.phase = .idle) : fetchSvc s = fetchCall s := by
  simp [fetchSvc, h]

theorem fetchSvc_of_testing {s : State} {l : Line} {f : Frame} (h : s.phase = .testing l f) :
    fetchSvc s = .moved (serviceTest l f s) := by
  simp [fetchSvc, h]

theorem fetchSvc_of_selected {s : State} {l : Line} {f : Frame} (h : s.phase = .selected l f) :
    fetchSvc s = .moved (serviceClear l f s) := by
  simp [fetchSvc, h]

theorem fetchSvc_of_calling {s : State} {f : Frame} (h : s.phase = .calling f) :
    fetchSvc s = .run (.decodeFrame f) s := by
  simp [fetchSvc, h]

theorem fetchSvc_of_decoding {s : State} {d : Decode} (h : s.phase = .decoding d) :
    fetchSvc s = fetchByte d s := by
  unfold fetchSvc; split <;> simp_all

theorem fetchSvc_of_rearm {s : State} {events : Nat} (h : s.phase = .rearm events) :
    fetchSvc s = .moved (serviceRearm events s) := by
  simp [fetchSvc, h]

/-- A step that needs no instruction. -/
theorem step_of_moved {s t : State} (h : fetch s = .moved t) : step s = .next t := by
  simp [step, h]

/-- A step that runs an instruction. -/
theorem step_of_run {s s' : State} {i : Instr} (h : fetch s = .run i s') : step s = exec i s' := by
  simp [step, h]

/-- Where no byte is next, the decode ends. -/
theorem fetchByte_of_none {d : Decode} {s : State} (h : nextByte d s = none) :
    fetchByte d s = .moved (finishDecode d s) := by
  unfold fetchByte; split <;> simp_all

/-- Where a byte is next, its handler runs. -/
theorem fetchByte_of_some {d : Decode} {s : State} {b : Byte} {i : Instr}
    (h : nextByte d s = some b) (hi : decode (.frame d.off b) = .ok i) : fetchByte d s = .run i s := by
  unfold fetchByte; split <;> simp_all

/-- A callback's edge comes before everything else. -/
theorem fetch_of_irq {s : State} {w : Byte} {ts : List Turn} (h : s.turns = .irq w :: ts) :
    fetch s = fetchIrq w { s with turns := ts } := by
  simp [fetch, h]

/-! ### A callback's edge -/

@[simp] theorem decode_callbackWord (l : Line) :
    decode (.op ⟨callbackWord l, Operands.zero⟩) = .ok (callbackInstr l) := by
  cases l <;> rfl

@[simp] theorem callbackInstr_agent (l : Line) : (callbackInstr l).agent = .irq l := by
  cases l <;> rfl

theorem lineFires_enabled {s : State} {l : Line} (h : lineFires s l = true) : enabledIn s.lineEnabled l = true := by
  unfold lineFires at h
  simp_all

end Sys2Proof.Safety
end

