-- ==== Sys2Proof/Laws/Step.lean ====
section
/-! SUPPORT. What a step of the machine can do, said once: `step_move` takes a step apart, `call_effect` and
`byte_effect` say what the instruction it ran did. Proofs about steps cite these and do not unfold the step. -/

namespace Sys2Proof.Safety

open Sys2Proof.Machine

/-! ### The instruction a call or a byte runs -/

/-- A callback on an enabled line. -/
theorem exec_callbackInstr {s : State} {l : Line} (h : enabledIn s.lineEnabled l = true) :
    exec (callbackInstr l) s =
      .next (if l = .dataReady then setDrLine .holdLow (setPending l s) else setPending l s) := by
  cases l <;>
    simp [exec, callbackInstr, execMarkPendingDR, execMarkPendingG0, execMarkPendingG1, execMarkPendingG2,
      execMarkPendingG3, markLine, h]

/-- An instruction of agent IRQ is the callback of its line. -/
theorem callbackInstr_of_agent {i : Instr} {l : Line} (h : i.agent = .irq l) : i = callbackInstr l := by
  cases i <;> simp [Instr.agent] at h <;> subst h <;> rfl

/-- The word of a callback. -/
theorem word_of_callback {w : Byte} {o : Operands} {l : Line} (h : decode (.op ⟨w, o⟩) = .ok (callbackInstr l)) :
    w = callbackWord l := by
  have key : ∀ w : Byte, w = BitVec.ofNat 8 ((w >>> 4).toNat * 16 + (w &&& 0x0F#8).toNat) := by decide
  have hw := key w
  simp only [decode, decodeCommand] at h
  split at h
  all_goals
    first
    | (rename_i h1 h2
       rw [h1, h2] at hw
       cases l <;> first | exact hw | cases h)
    | (split at h <;> cases h)
    | cases h

/-- What a call of an operation of agent SVC can do, when none is in progress: whatever it does, the one construction is
past after it. -/
inductive CallEffect (i : Instr) (s : State) : State → Prop where
  | construct (dr rst : PinId) (addr : BusAddress) (hi : i = .construct dr rst addr) (hc : s.constructionDone = false) :
      CallEffect i s (constructed dr rst addr s)
  | badIndex (lineIndex : Int) (pin : PinId) (hi : i = .setGestureIrqPin lineIndex pin)
      (h : gestureIndex lineIndex = none) : CallEffect i s (raiseConfigError lineIndex (pastConstruction s))
  | setPin (lineIndex : Int) (pin : PinId) (k : Fin 4) (hi : i = .setGestureIrqPin lineIndex pin)
      (h : gestureIndex lineIndex = some k) (hr : s.ready = false) :
      CallEffect i s
        (returns (.value 0) { pastConstruction s with gestureIrqPins := s.gestureIrqPins.set k.val (some pin) })
  | begin (hi : i = .beginOp) (hr : s.ready = false) : CallEffect i s (returns .none (begun (pastConstruction s)))
  | clean (hi : i = .markClean) : CallEffect i s (returns .none (cleaned (pastConstruction s)))
  | nothing (f : Frame) (hi : i = .service f) (h : ∀ l, pendingIn s.mask l = false) :
      CallEffect i s (returns (.value 0) (pastConstruction s))
  | select (f : Frame) (l : Line) (hi : i = .service f) (h : pendingIn s.mask l = true)
      (hl : ∀ k, lineBit k < lineBit l → pendingIn s.mask k = false) : 
      CallEffect i s (goTo (.selected l f) (pastConstruction s))
  | chain (f : Frame) (hi : i = .service f) (h : ∃ l, pendingIn s.mask l = true) (hs : s.params.select = .chained) :
      CallEffect i s (goTo (.testing .dataReady f) (pastConstruction s))
  | read (r : Result) : CallEffect i s (returns r (pastConstruction s))

/-- A whole-byte read is zero exactly when no line is pending. -/
theorem readableMask_eq_zero {m : BitVec 8} : readableMask m = 0 ↔ ∀ l, pendingIn m l = false := by
  constructor
  · intro h l; rw [← pendingIn_readableMask, h]; cases l <;> rfl
  · intro h
    have key : ∀ m : BitVec 8, pendingIn m .dataReady = false → pendingIn m .gesture0 = false →
        pendingIn m .gesture1 = false → pendingIn m .gesture2 = false → pendingIn m .gesture3 = false →
        readableMask m = 0 := by decide
    exact key m (h _) (h _) (h _) (h _) (h _)

theorem call_effect {i : Instr} {s t : State} (ha : i.agent = .svc) (hp : s.phase = .idle)
    (h : exec i s = .next t) : CallEffect i s t := by
  cases i <;> simp [Instr.agent] at ha
  case construct =>
    simp only [exec, execConstruct, svcOp_of_idle hp] at h
    split at h
    · cases h
    · rename_i hc; cases h; exact .construct _ _ _ rfl (by simpa using hc)
  case setGestureIrqPin li pin =>
    simp only [exec, execSetGestureIrqPin, svcOp_of_idle hp] at h
    split at h
    · cases h; exact .badIndex _ _ rfl (by assumption)
    · split at h
      · cases h
      · rename_i k hk hr
        cases h; exact .setPin _ _ k rfl hk (by simpa using hr)
  case beginOp =>
    simp only [exec, execBegin, svcOp_of_idle hp] at h
    split at h
    · cases h
    · rename_i hr; cases h; exact .begin rfl (by simpa using hr)
  case markClean => simp [exec, execMarkClean, hp] at h; subst h; exact .clean rfl
  case service f =>
    simp only [exec, execService, svcOp_of_idle hp] at h
    split at h
    · rename_i hm; cases h; exact .nothing f rfl (readableMask_eq_zero.1 hm)
    · rename_i hm
      split at h
      · cases h
        rw [chooseFrom, readMask, pastConstruction_mask]
        rcases firstPending_cases (readableMask s.mask) with ⟨l, he, hl, hk⟩ | ⟨he, hn⟩
        · rw [he]
          exact .select f l rfl (by rwa [pendingIn_readableMask] at hl)
            (fun k hlt => by have := hk k hlt; rwa [pendingIn_readableMask] at this)
        · rw [he]
          exact .nothing f rfl (fun l => by have := hn l; rwa [pendingIn_readableMask] at this)
      · rename_i hs
        cases h
        refine .chain f rfl ?_ hs
        by_contra hc
        exact hm (readableMask_eq_zero.2 fun l => by
          rw [pastConstruction_mask]
          cases hl : pendingIn s.mask l with
          | false => rfl
          | true => exact absurd ⟨l, hl⟩ hc)
  case decodeFrame f => simp [exec, execDecodeFrame, hp] at h
  all_goals
    simp only [exec, execReadRegX, execReadRegY, execReadRegZ, execReadRegSwipe, execReadRegTap, execReadRegGeneric,
      execReadRegAirwheel, execReadRegFramecount, execEventCodeToLabel, execDump, answer_eq_next] at h
    rw [h.2]
    exact .read _

/-- What a byte handler can do: it moves on by one, and writes at most five registers. -/
structure ByteEffect (d : Decode) (b : Byte) (s t : State) (d' : Decode) : Prop where
  frame : t = { s with
    lastGenericEventCode := t.lastGenericEventCode
    lastSwipeCode := t.lastSwipeCode
    lastTapCode := t.lastTapCode
    airWheelAccumulator := t.airWheelAccumulator
    lastPosition := t.lastPosition
    phase := .decoding d' }
  off : d'.off = d.off + 1
  expected : d'.expected = if d.off = 0 then declareLength s.params.lenReading d.expected b else d.expected
  pv : d'.pv = if d.off = 7 then positionValid b else d.pv
  av : d'.av = if d.off = 7 then airWheelValid b else d.av
  tx : d'.tx = if d.off = 20 then lowByte b else if d.off = 21 then joinHigh d.tx b else d.tx
  ty : d'.ty = if d.off = 22 then lowByte b else if d.off = 23 then joinHigh d.ty b else d.ty
  tz : d'.tz = if d.off = 24 then lowByte b else if d.off = 25 then joinHigh d.tz b else d.tz
  events : d'.events = d.events +
    if (d.off = 10 ∧ codeFires b = true) ∨ (d.off = 14 ∧ tapFires b = true) ∨ (d.off = 15 ∧ tapContFires b = true) ∨
      (d.off = 18 ∧ d.av = true) then 1 else 0
  generic : t.lastGenericEventCode =
    if d.off = 1 ∧ codeFires b = true then swipeCode b else s.lastGenericEventCode
  swipe : t.lastSwipeCode = if d.off = 10 ∧ codeFires b = true then swipeCode b else s.lastSwipeCode
  tap : t.lastTapCode =
    if d.off = 14 ∧ tapFires b = true then tapCode b
    else if d.off = 15 ∧ tapContFires b = true then tapCodeCont b else s.lastTapCode
  wheel : t.airWheelAccumulator =
    if d.off = 18 ∧ d.av = true then accumulate s.airWheelAccumulator b else s.airWheelAccumulator
  position : t.lastPosition =
    if d.off = 25 ∧ d.pv = true then committed d.tx d.ty (joinHigh d.tz b) else s.lastPosition

/-- Used to prove `byte_effect`: a byte handler at its own offset, with what its next state and transients satisfy. -/
theorem handleByte_satisfies {k : Nat} {write : Decode → State → State} {change : Decode → Decode} {s : State}
    {d : Decode} {P : State → Decode → Prop} (h : s.phase = .decoding d) (hk : d.off = k)
    (hP : P (goTo (.decoding { change d with off := k + 1 }) (write d s)) { change d with off := k + 1 }) :
    ∃ t d', handleByte k write change s = .next t ∧ P t d' :=
  ⟨_, _, handleByte_of_decoding h hk, hP⟩

theorem byte_effect {d : Decode} {b : Byte} {i : Instr} {s : State} (hp : s.phase = .decoding d)
    (h32 : d.off < 32) (hi : decode (.frame d.off b) = .ok i) :
    ∃ t d', exec i s = .next t ∧ ByteEffect d b s t d' := by
  obtain ⟨k, hk⟩ : ∃ k, d.off = k := ⟨_, rfl⟩
  rw [hk] at hi h32
  interval_cases k <;> (simp only [decode, decodeByte, Except.ok.injEq] at hi; subst hi)
  all_goals
    simp only [exec, execFrame0, execFrame1, execFrame2, execFrame3, execFrame4, execFrame5, execFrame6, execFrame7,
      execFrame8, execFrame9, execFrame10, execFrame11, execFrame12, execFrame13, execFrame14, execFrame15, execFrame16,
      execFrame17, execFrame18, execFrame19, execFrame20, execFrame21, execFrame22, execFrame23, execFrame24,
      execFrame25, execFrame26, execFrame27, execFrame28, execFrame29, execFrame30, execFrame31, ignoreByte]
    refine handleByte_satisfies hp hk ?_
    constructor <;> simp [hk, goTo, countEvent] <;> (try split) <;> simp_all

/-! ### The step -/

/-- What a step can do. -/
inductive Move (s : State) : State → Prop where
  /-- An edge on a line that does not fire: only the turn is gone. -/
  | noEdge (w : Byte) (ts : List Turn) (h : s.turns = .irq w :: ts) : Move s { s with turns := ts }
  /-- A callback: one bit of `mask`, and the line held low for line 0. -/
  | edge (l : Line) (ts : List Turn) (h : s.turns = .irq (callbackWord l) :: ts) (hf : lineFires s l = true) :
      Move s (if l = .dataReady then setDrLine .holdLow (setPending l { s with turns := ts })
        else setPending l { s with turns := ts })
  /-- No call to make. -/
  | wait (s' : State) (h : svcMoves s = some s') (hp : s.phase = .idle) (he : s.program = []) : Move s s'
  /-- A call of an operation of agent SVC. -/
  | call (s' t : State) (p : Packet) (ps : List Packet) (i : Instr) (h : svcMoves s = some s') (hp : s.phase = .idle)
      (he : s.program = p :: ps) (hd : decode (.op p) = .ok i) (ha : i.agent = .svc)
      (ht : CallEffect i { s' with program := ps } t) : Move s t
  | test (s' : State) (l : Line) (f : Frame) (h : svcMoves s = some s') (hp : s.phase = .testing l f) :
      Move s (serviceTest l f s')
  | clear (s' : State) (l : Line) (f : Frame) (h : svcMoves s = some s') (hp : s.phase = .selected l f) :
      Move s (serviceClear l f s')
  | start (s' : State) (f : Frame) (h : svcMoves s = some s') (hp : s.phase = .calling f) : Move s (beginDecode f s')
  | byte (s' t : State) (d d' : Decode) (b : Byte) (h : svcMoves s = some s')
      (hp : s.phase = .decoding d) (hb : nextByte d s' = some b) (ht : ByteEffect d b s' t d') : Move s t
  | finish (s' : State) (d : Decode) (h : svcMoves s = some s') (hp : s.phase = .decoding d)
      (hb : nextByte d s' = none) : Move s (finishDecode d s')
  | rearm (s' : State) (events : Nat) (h : svcMoves s = some s') (hp : s.phase = .rearm events) :
      Move s (serviceRearm events s')

theorem step_move {s t : State} (h : step s = .next t) : Move s t := by
  rcases fetch_cases s with ⟨s', hs, hf⟩ | ⟨w, ts, ht, hf⟩
  · have hq := svcMoves_phase hs
    cases hp : s.phase with
    | idle =>
      rw [fetchSvc_of_idle (hq.trans hp)] at hf
      rcases fetchCall_cases s' with ⟨he, hc⟩ | ⟨p, ps, i, he, hd, ha, hc⟩ | ⟨r, hc⟩
      · rw [hc] at hf; rw [step_of_moved hf] at h; cases h; exact .wait _ hs hp (svcMoves_program hs ▸ he)
      · rw [hc] at hf; rw [step_of_run hf] at h
        exact .call _ _ p ps i hs hp (svcMoves_program hs ▸ he) hd ha (call_effect ha (hq.trans hp) h)
      · rw [hc] at hf; simp [step, hf] at h
    | testing l f =>
      rw [fetchSvc_of_testing (hq.trans hp)] at hf; rw [step_of_moved hf] at h; cases h; exact .test _ l f hs hp
    | selected l f =>
      rw [fetchSvc_of_selected (hq.trans hp)] at hf; rw [step_of_moved hf] at h; cases h; exact .clear _ l f hs hp
    | calling f =>
      rw [fetchSvc_of_calling (hq.trans hp)] at hf; rw [step_of_run hf] at h
      simp [exec, execDecodeFrame, hq.trans hp] at h; subst h; exact .start _ f hs hp
    | decoding d =>
      rw [fetchSvc_of_decoding (hq.trans hp)] at hf
      rcases fetchByte_cases d s' with ⟨hb, hc⟩ | ⟨b, i, hb, hd, hc⟩ | ⟨r, hc⟩
      · rw [hc] at hf; rw [step_of_moved hf] at h; cases h; exact .finish _ d hs hp hb
      · rw [hc] at hf; rw [step_of_run hf] at h
        obtain ⟨t', d', ht', he⟩ := byte_effect (hq.trans hp) (nextByte_eq_some.1 hb).2.1 hd
        rw [ht'] at h; cases h
        exact .byte _ _ d d' b hs hp hb he
      · rw [hc] at hf; simp [step, hf] at h
    | rearm events =>
      rw [fetchSvc_of_rearm (hq.trans hp)] at hf; rw [step_of_moved hf] at h; cases h; exact .rearm _ events hs hp
  · rcases fetchIrq_cases w { s with turns := ts } with ⟨i, l, hd, ha, ⟨hl, hc⟩ | ⟨hl, hc⟩⟩ | ⟨r, hc⟩
    · rw [hc] at hf; rw [step_of_run hf] at h
      have hi := callbackInstr_of_agent ha
      rw [hi] at h hd
      rw [exec_callbackInstr (lineFires_enabled hl)] at h
      cases h
      rw [word_of_callback hd] at ht
      exact .edge l ts ht hl
    · rw [hc] at hf; rw [step_of_moved hf] at h; cases h; exact .noEdge w ts ht
    · rw [hc] at hf; simp [step, hf] at h

end Sys2Proof.Safety
end

