-- ==== Sys2Proof/Tests/Slice0.lean ====
section
/-! SUPPORT. Tests of one step each, with results taken from spec/ (the vectors M, SV, D, L, C and G are those of
95_test_vectors.md), and, for every statement with hypotheses, a concrete state that meets them. -/

namespace Sys2Proof.Tests

open Sys2Proof Sys2Proof.Machine Sys2Proof.Safety

/-! ### Small states -/

/-- The normative parameters, with INIT_EXPECTED = 1. -/
def params1 : Params := { initExpectedPred := 0, lenReading := .total, select := .snapshot, envNoDrWhileLow := false }

/-- After `construct`. -/
def fresh : State := { State.reset with params := params1, constructionDone := true }

/-- After `begin` with all four gesture pins assigned, some frame decoded, gesture 0 pending (the start of vector C1). -/
def running : State :=
  { fresh with
    gestureIrqPins := #v[some 5, some 6, some 7, some 8]
    ready := true
    lineEnabled := 0b11111#5
    mask := 0x02#8
    lastPosition := { x := 1, y := 2, z := 3 }
    lastSwipeCode := 0x30#8
    lastTapCode := 0x50#8
    lastGenericEventCode := 0x22#8
    airWheelAccumulator := 16#16
    frameCount := 1#32 }

/-- A decode standing at an offset, 32 bytes delivered, both flags as given. -/
def decodingAt (off : Nat) (flag : Bool) : State :=
  { running with
    buf := Memory.ofBytes (List.replicate 32 0x07#8)
    phase := .decoding { startDecode params1 with off := off, expected := 32, pv := flag, av := flag } }

/-- What a step's next state satisfies; false where the step does not answer next. -/
def after (r : Host.Outcome State Fault Refusal) (p : State → Bool) : Bool :=
  match r with
  | .next t => p t
  | .fault _ => false
  | .refused _ => false

/-- The refusal of a step. -/
def refusal (r : Host.Outcome State Fault Refusal) : Option Refusal :=
  match r with
  | .next _ => none
  | .fault _ => none
  | .refused q => some q

/-- The number of events a decode has counted. -/
def eventsOf (s : State) : Option Nat :=
  match s.phase with
  | .decoding d => some d.events
  | _ => none

/-! ### Well-formed instructions -/

/-- A frame of 33 bytes is refused, one of 32 is not (20_memory.md R60, R64). -/
theorem test_wf_service_frame :
    (Instr.service (List.replicate 33 0#8)).wf = false ∧ (Instr.service (List.replicate 32 0#8)).wf = true := by decide

theorem test_wf_decodeFrame_frame :
    (Instr.decodeFrame (List.replicate 33 0#8)).wf = false ∧
      (Instr.decodeFrame (List.replicate 32 0#8)).wf = true := by decide

/-! ### Words written out from 30_encoding.md R90, R91 (`cmd[7:4]` the select, `cmd[3:0]` the argument) and R96 -/

theorem test_decode_lifecycle :
    decode (.op ⟨0b0000_0000#8, { Operands.zero with dataReadyPin := 2, resetPin := 3, busAddress := 66 }⟩)
      = .ok (.construct 2 3 66) ∧
    decode (.op ⟨0b0001_0000#8, { Operands.zero with lineIndex := -1, pin := 7 }⟩) = .ok (.setGestureIrqPin (-1) 7) ∧
    decode (.op ⟨0b0010_0000#8, Operands.zero⟩) = .ok .beginOp ∧
    decode (.op ⟨0b0100_0000#8, Operands.zero⟩) = .ok .markClean := ⟨rfl, rfl, rfl, rfl⟩

theorem test_decode_service_and_decodeFrame :
    decode (.op ⟨0b0011_0000#8, { Operands.zero with frame := [0x02#8, 0x08#8] }⟩)
      = .ok (.service [0x02#8, 0x08#8]) ∧
    decode (.op ⟨0b1001_0000#8, { Operands.zero with frame := [0x01#8] }⟩) = .ok (.decodeFrame [0x01#8]) :=
  ⟨rfl, rfl⟩

theorem test_decode_accessors :
    decode (.op ⟨0b0101_0000#8, Operands.zero⟩) = .ok .readRegX ∧
    decode (.op ⟨0b0101_0001#8, Operands.zero⟩) = .ok .readRegY ∧
    decode (.op ⟨0b0101_0010#8, Operands.zero⟩) = .ok .readRegZ ∧
    decode (.op ⟨0b0101_0011#8, Operands.zero⟩) = .ok .readRegSwipe ∧
    decode (.op ⟨0b0101_0100#8, Operands.zero⟩) = .ok .readRegTap ∧
    decode (.op ⟨0b0101_0101#8, Operands.zero⟩) = .ok .readRegGeneric ∧
    decode (.op ⟨0b0101_0110#8, Operands.zero⟩) = .ok .readRegAirwheel ∧
    decode (.op ⟨0b0101_0111#8, Operands.zero⟩) = .ok .readRegFramecount ∧
    decode (.op ⟨0b0110_0000#8, { Operands.zero with code := 0x44#8 }⟩) = .ok (.eventCodeToLabel 0x44#8) ∧
    decode (.op ⟨0b0111_0000#8, Operands.zero⟩) = .ok .dump :=
  ⟨rfl, rfl, rfl, rfl, rfl, rfl, rfl, rfl, rfl, rfl⟩

theorem test_decode_markPending :
    decode (.op ⟨0b1000_0000#8, Operands.zero⟩) = .ok .markPendingDR ∧
    decode (.op ⟨0b1000_0001#8, Operands.zero⟩) = .ok .markPendingG0 ∧
    decode (.op ⟨0b1000_0010#8, Operands.zero⟩) = .ok .markPendingG1 ∧
    decode (.op ⟨0b1000_0011#8, Operands.zero⟩) = .ok .markPendingG2 ∧
    decode (.op ⟨0b1000_0100#8, Operands.zero⟩) = .ok .markPendingG3 := ⟨rfl, rfl, rfl, rfl, rfl⟩

theorem test_decode_frame_low :
  decode (.frame 0b00000 0xA5#8) = .ok (.frame0 0xA5#8) ∧
  decode (.frame 0b00001 0xAC#8) = .ok (.frame1 0xAC#8) ∧
  decode (.frame 0b00010 0xB3#8) = .ok (.frame2 0xB3#8) ∧
  decode (.frame 0b00011 0xBA#8) = .ok (.frame3 0xBA#8) ∧
  decode (.frame 0b00100 0xC1#8) = .ok (.frame4 0xC1#8) ∧
  decode (.frame 0b00101 0xC8#8) = .ok (.frame5 0xC8#8) ∧
  decode (.frame 0b00110 0xCF#8) = .ok (.frame6 0xCF#8) ∧
  decode (.frame 0b00111 0xD6#8) = .ok (.frame7 0xD6#8) ∧
  decode (.frame 0b01000 0xDD#8) = .ok (.frame8 0xDD#8) ∧
  decode (.frame 0b01001 0xE4#8) = .ok (.frame9 0xE4#8) ∧
  decode (.frame 0b01010 0xEB#8) = .ok (.frame10 0xEB#8) ∧
  decode (.frame 0b01011 0xF2#8) = .ok (.frame11 0xF2#8) ∧
  decode (.frame 0b01100 0xF9#8) = .ok (.frame12 0xF9#8) ∧
  decode (.frame 0b01101 0x00#8) = .ok (.frame13 0x00#8) ∧
  decode (.frame 0b01110 0x07#8) = .ok (.frame14 0x07#8) ∧
  decode (.frame 0b01111 0x0E#8) = .ok (.frame15 0x0E#8) :=
  ⟨rfl, rfl, rfl, rfl, rfl, rfl, rfl, rfl, rfl, rfl, rfl, rfl, rfl, rfl, rfl, rfl⟩

theorem test_decode_frame_high :
  decode (.frame 0b10000 0x15#8) = .ok (.frame16 0x15#8) ∧
  decode (.frame 0b10001 0x1C#8) = .ok (.frame17 0x1C#8) ∧
  decode (.frame 0b10010 0x23#8) = .ok (.frame18 0x23#8) ∧
  decode (.frame 0b10011 0x2A#8) = .ok (.frame19 0x2A#8) ∧
  decode (.frame 0b10100 0x31#8) = .ok (.frame20 0x31#8) ∧
  decode (.frame 0b10101 0x38#8) = .ok (.frame21 0x38#8) ∧
  decode (.frame 0b10110 0x3F#8) = .ok (.frame22 0x3F#8) ∧
  decode (.frame 0b10111 0x46#8) = .ok (.frame23 0x46#8) ∧
  decode (.frame 0b11000 0x4D#8) = .ok (.frame24 0x4D#8) ∧
  decode (.frame 0b11001 0x54#8) = .ok (.frame25 0x54#8) ∧
  decode (.frame 0b11010 0x5B#8) = .ok (.frame26 0x5B#8) ∧
  decode (.frame 0b11011 0x62#8) = .ok (.frame27 0x62#8) ∧
  decode (.frame 0b11100 0x69#8) = .ok (.frame28 0x69#8) ∧
  decode (.frame 0b11101 0x70#8) = .ok (.frame29 0x70#8) ∧
  decode (.frame 0b11110 0x77#8) = .ok (.frame30 0x77#8) ∧
  decode (.frame 0b11111 0x7E#8) = .ok (.frame31 0x7E#8) :=
  ⟨rfl, rfl, rfl, rfl, rfl, rfl, rfl, rfl, rfl, rfl, rfl, rfl, rfl, rfl, rfl, rfl⟩

/-- R91, R111(d): an unused select, a register number above 7, a line identifier above 4, a non-zero low nibble. -/
theorem test_decode_refuses :
    decode (.op ⟨0xA0#8, Operands.zero⟩) = .error (.unusedSelect 0xA0#8) ∧
    decode (.op ⟨0x58#8, Operands.zero⟩) = .error (.noSuchRegister 0x58#8) ∧
    decode (.op ⟨0x85#8, Operands.zero⟩) = .error (.noSuchLine 0x85#8) ∧
    decode (.op ⟨0x31#8, Operands.zero⟩) = .error (.argumentNotZero 0x31#8) ∧
    decode (.frame 32 0x00#8) = .error (.noSuchOffset 32) := ⟨rfl, rfl, rfl, rfl, rfl⟩

/-- Table words: the command words, and, where none is named, the offset key of a frame byte (log 2). -/
theorem test_decodeTableWord :
    decodeTableWord 8 0x56 = some .readRegAirwheel ∧ decodeTableWord 8 0x00 = some (.construct 0 0 0) ∧
    decodeTableWord 8 0x0A = some (.frame10 0#8) ∧ decodeTableWord 8 0x1F = some (.frame31 0#8) ∧
    decodeTableWord 16 0x0210 = some (.frame16 0x02#8) ∧ decodeTableWord 16 0x0020 = none :=
  ⟨rfl, rfl, rfl, rfl, rfl, rfl⟩

/-- The next step after `withFetchWord` runs the word: a call, a callback, a frame byte; a word of no row is refused. -/
theorem test_withFetchWord_call : after (step (State.reset.withFetchWord 8 0x20)) (fun t => t.ready) = true := by decide

theorem test_withFetchWord_callback :
    after (step (State.reset.withFetchWord 8 0x82)) (fun t => t.mask == 0x04#8) = true := by decide

theorem test_withFetchWord_frame :
    after (step (State.reset.withFetchWord 16 0x030A)) (fun t => t.lastSwipeCode == 0x24#8) = true := by decide

/-- Word 0x90 is placed where `service` calls `decodeFrame`; called by the caller it is refused (R170, log 14). -/
theorem test_withFetchWord_decodeFrame :
    after (step (State.reset.withFetchWord 8 0x90)) (fun t => t.issued == [.requestTransfer 0 32]) = true ∧
    refusal (exec (.decodeFrame []) fresh) = some .decodeFrameOutsideService := by decide

theorem test_withFetchWord_no_row :
    refusal (step (State.reset.withFetchWord 16 0x00FF)) = some (.namesNoInstruction (.unusedSelect 0xFF#8)) := by decide

/-! ### Lifecycle -/

/-- 10_state.md R46. -/
theorem test_construct :
    after (exec (.construct 2 3 66) { running with constructionDone := false }) (fun t =>
      t.dataReadyPin == 2 && t.resetPin == 3 && t.busAddress == 66 && t.mask == 0#8 && !t.ready &&
      t.lastPosition == Position.invalid && t.frameCount == 0#32) = true := by decide

/-- R45, R311: no second `construct`, and none after another operation, even one that changes no register. -/
theorem test_construct_once :
    refusal (execAll [.construct 2 3 66, .construct 2 3 66] State.reset) = some .secondConstruct ∧
    refusal (execAll [.readRegX, .construct 2 3 66] State.reset) = some .secondConstruct := by decide

/-- Vectors G1, G2. -/
theorem test_setpin :
    after (exec (.setGestureIrqPin 0 5) fresh) (fun t =>
      t.gestureIrqPins == #v[some 5, none, none, none] && t.result == .value 0) = true ∧
    after (exec (.setGestureIrqPin 3 8) fresh) (fun t =>
      t.gestureIrqPins == #v[none, none, none, some 8] && t.result == .value 0) = true := by decide

/-- Vectors G3 to G5, and G10 after `begin`. -/
theorem test_setpin_fails :
    exec (.setGestureIrqPin 4 7) fresh = .next { fresh with result := .value (-1) } ∧
    exec (.setGestureIrqPin (-1) 7) fresh = .next { fresh with result := .value (-1) } ∧
    exec (.setGestureIrqPin 255 7) fresh = .next { fresh with result := .value (-1) } ∧
    exec (.setGestureIrqPin 9 9) running = .next { running with result := .value (-1) } ∧
    refusal (exec (.setGestureIrqPin 1 9) running) = some .gesturePinAfterBegin := ⟨rfl, rfl, rfl, rfl, rfl⟩

/-- Vector G7. -/
theorem test_begin :
    after (exec .beginOp { fresh with gestureIrqPins := #v[some 5, none, some 6, none] }) (fun t =>
      t.lineEnabled == 0b01011#5 && t.ready && t.drLineMode == .sense && t.mask == 0#8) = true := by decide

/-- Vectors G8, G9. -/
theorem test_begin_bare_and_twice :
    after (exec .beginOp fresh) (fun t => t.lineEnabled == 0b00001#5) = true ∧
    refusal (exec .beginOp running) = some .secondBegin := by decide

/-- Vector C1. -/
theorem test_markClean :
    after (exec .markClean running) (fun t =>
      t.lastPosition == Position.invalid && t.lastSwipeCode == 0#8 && t.lastTapCode == 0#8 &&
      t.lastGenericEventCode == 0#8 && t.airWheelAccumulator == 0#16 && t.frameCount == 1#32 && t.mask == 0x02#8)
      = true := by decide

/-! ### Accessors, labels, dump -/

/-- Vector C3, read after reset. -/
theorem test_accessors_clean :
    ([.readRegX, .readRegY, .readRegZ, .readRegSwipe, .readRegTap, .readRegGeneric, .readRegAirwheel] : List Instr).map
      (fun i => after (exec i fresh) (fun t => t.result == .value (-1))) =
      [true, true, true, false, false, false, false] := by decide

/-- The registers of vector C1's start, each read by its own accessor; the air wheel at -3 (vector D7). -/
theorem test_accessors_running :
    ([(.readRegX, 1), (.readRegY, 2), (.readRegZ, 3), (.readRegSwipe, 0x30), (.readRegTap, 0x50), (.readRegGeneric, 0x22),
      (.readRegAirwheel, -3), (.readRegFramecount, 1)] : List (Instr × Int)).all
      (fun iv => after (exec iv.1 { running with airWheelAccumulator := 0xFFFD#16 })
        (fun t => t.result == .value iv.2)) = true := by decide

/-- Vectors L1 to L9. -/
theorem test_labels :
    ([0x22#8, 0x24#8, 0x28#8, 0x30#8, 0x41#8, 0x42#8, 0x44#8, 0x48#8, 0x50#8].map fun c => labelText (labelOf c)) =
      ["Right Swipe", "Left Swipe", "Up Swipe", "Down Swipe", "Tap South", "Tap West", "Tap North", "Tap East",
        "Tap Center"] := by decide

/-- Vectors L10 to L13. -/
theorem test_labels_empty :
    ([0xFF#8, 0x00#8, 0x20#8, 0x60#8, 0xA0#8, 0x40#8, 0x43#8, 0x45#8, 0x46#8, 0x47#8, 0x58#8, 0x23#8, 0x21#8].all
      fun c => after (exec (.eventCodeToLabel c) running) (fun t => t.result == .label .empty)) = true := by decide

/-- 43_state_ops.md R238, on the registers of vector C1's start. -/
theorem test_dump :
    after (exec .dump running) (fun t => t.result == .dump
      { x := 1, y := 2, z := 3, swipeLabel := .downSwipe, tapLabel := .tapCenter, airWheel := 16 }) = true := by decide

/-! ### The marker register -/

/-- Vectors M1 to M5, all lines enabled. -/
theorem test_markPending_sets_its_bit :
    let s := { running with mask := 0x00#8 }
    after (exec .markPendingDR s) (fun t => t.mask == 0x01#8 && t.drLineMode == .holdLow) = true ∧
    after (exec .markPendingG0 s) (fun t => t.mask == 0x02#8 && t.drLineMode == .sense) = true ∧
    after (exec .markPendingG1 s) (fun t => t.mask == 0x04#8 && t.drLineMode == .sense) = true ∧
    after (exec .markPendingG2 s) (fun t => t.mask == 0x08#8 && t.drLineMode == .sense) = true ∧
    after (exec .markPendingG3 s) (fun t => t.mask == 0x10#8 && t.drLineMode == .sense) = true := by decide

/-- Vectors M6, M7, M10. -/
theorem test_markPending_again_and_disabled :
    after (exec .markPendingG2 { running with mask := 0x08#8 }) (fun t => t.mask == 0x08#8) = true ∧
    after (exec .markPendingDR { running with mask := 0x1E#8 }) (fun t => t.mask == 0x1F#8) = true ∧
    refusal (exec .markPendingG1 fresh) = some (.lineNotEnabled .gesture1) := by decide

/-! ### The service routine -/

/-- Vector SV1: result 0, no request. -/
theorem test_service_no_work :
    exec (.service []) fresh = .next { fresh with result := .value 0 } := rfl

/-- Vector SV5: gesture 1 before gesture 3; SV7: data-ready first. -/
theorem test_service_selects :
    after (exec (.service []) { running with mask := 0x14#8 }) (fun t => t.phase == .selected .gesture1 []) = true ∧
    after (exec (.service [0x01#8]) { running with mask := 0x1F#8 })
      (fun t => t.phase == .selected .dataReady [0x01#8]) = true := by decide

/-- Vectors SV5 and SV7, the clear. -/
theorem test_service_clears :
    after (step { running with mask := 0x14#8, phase := .selected .gesture1 [] })
      (fun t => t.mask == 0x10#8 && t.result == .value 1 && t.phase == .idle) = true ∧
    after (step { running with mask := 0x1F#8, phase := .selected .dataReady [0x01#8] })
      (fun t => t.mask == 0x1E#8 && t.phase == .calling [0x01#8]) = true := by decide

/-- The re-arm of vectors SV3 and SV4: no event gives 0, two give 1. -/
theorem test_service_rearm :
    after (step { running with drLineMode := .holdLow, phase := .rearm 0 })
      (fun t => t.drLineMode == .sense && t.result == .value 0) = true ∧
    after (step { running with drLineMode := .holdLow, phase := .rearm 2 })
      (fun t => t.drLineMode == .sense && t.result == .value 1) = true := by decide

/-! ### The frame decoder -/

/-- 42_frame_decoder.md R170, R174; 20_memory.md R61. -/
theorem test_decodeFrame :
    after (exec (.decodeFrame [0x02#8, 0x08#8]) { running with busAddress := 66, phase := .calling [] }) (fun t =>
      t.issued == [.requestTransfer 66 32] && Memory.read t.buf 1 == some 0x08#8 && Memory.read t.buf 2 == none)
      = true := by decide

/-- R176's example, INIT_EXPECTED = 1; and a declared length of 0 (vector D14). -/
theorem test_frame0 :
    let s := { running with phase := .decoding (startDecode params1) }
    after (exec (.frame0 0x1A#8) s) (fun t => match t.phase with | .decoding d => d.expected == 26 | _ => false) = true ∧
    after (exec (.frame0 0x00#8) s) (fun t => match t.phase with | .decoding d => d.expected == 1 | _ => false) = true
    := by decide

/-- R177's example, and v = 1, which does not fire. -/
theorem test_frame1 :
    after (exec (.frame1 0x03#8) (decodingAt 1 false))
      (fun t => t.lastGenericEventCode == 0x24#8 && eventsOf t == some 0) = true ∧
    after (exec (.frame1 0x01#8) (decodingAt 1 false)) (fun t => t.lastGenericEventCode == 0x22#8) = true := by decide

/-- R179's and R180's examples: 0x001F, then 0x011F. -/
theorem test_frame4_frame5 :
    after (execAll [.frame4 0x1F#8, .frame5 0x01#8] (decodingAt 4 false))
      (fun t => match t.phase with | .decoding d => d.dataOutputMask == 0x011F#16 && d.off == 6 | _ => false) = true :=
  by decide

/-- R182's examples 0x02 and 0xFC. -/
theorem test_frame7 :
    after (exec (.frame7 0x02#8) (decodingAt 7 false))
      (fun t => match t.phase with | .decoding d => !d.pv && d.av | _ => false) = true ∧
    after (exec (.frame7 0xFC#8) (decodingAt 7 true))
      (fun t => match t.phase with | .decoding d => !d.pv && !d.av | _ => false) = true := by decide

/-- R184's example, and vector D16 (v = 9). -/
theorem test_frame10 :
    after (exec (.frame10 0x02#8) (decodingAt 10 false))
      (fun t => t.lastSwipeCode == 0x22#8 && eventsOf t == some 1) = true ∧
    after (exec (.frame10 0x09#8) (decodingAt 10 false))
      (fun t => t.lastSwipeCode == 0x20#8 && eventsOf t == some 1) = true := by decide

/-- Vectors D5a and D4 (90_conflicts.md C1), and v = 31, which does not fire. -/
theorem test_frame14 :
    after (exec (.frame14 0x80#8) (decodingAt 14 false)) (fun t => t.lastTapCode == 0x44#8 && eventsOf t == some 1) = true ∧
    after (exec (.frame14 0xE0#8) (decodingAt 14 false)) (fun t => t.lastTapCode == 0x47#8) = true ∧
    after (exec (.frame14 0x1F#8) (decodingAt 14 false)) (fun t => t.lastTapCode == 0x50#8 && eventsOf t == some 0) = true
    := by decide

/-- Vectors D5 and D6. -/
theorem test_frame15 :
    after (execAll [.frame14 0x80#8, .frame15 0x03#8] (decodingAt 14 false))
      (fun t => t.lastTapCode == 0x58#8 && eventsOf t == some 2) = true ∧
    after (execAll [.frame14 0x20#8, .frame15 0x04#8] (decodingAt 14 false))
      (fun t => t.lastTapCode == 0x40#8 && eventsOf t == some 2) = true := by decide

/-- R192: the example, the wrap from 32767, and the flag clear (vector D8). -/
theorem test_frame18 :
    after (exec (.frame18 0xFD#8) { decodingAt 18 true with airWheelAccumulator := 10#16 })
      (fun t => t.airWheelAccumulator == 7#16 && eventsOf t == some 1) = true ∧
    after (exec (.frame18 0x01#8) { decodingAt 18 true with airWheelAccumulator := 0x7FFF#16 })
      (fun t => t.airWheelAccumulator == 0x8000#16) = true ∧
    after (exec (.frame18 0x7F#8) (decodingAt 18 false))
      (fun t => t.airWheelAccumulator == 16#16 && eventsOf t == some 0) = true := by decide

/-- R196's example with `pv = 1` (100, 200, 300), and vector D2 with `pv = 0`. -/
theorem test_position_block :
    let block : List Instr := [.frame20 0x64#8, .frame21 0x00#8, .frame22 0xC8#8, .frame23 0x00#8, .frame24 0x2C#8,
      .frame25 0x01#8]
    after (execAll block (decodingAt 20 true)) (fun t => t.lastPosition == { x := 100, y := 200, z := 300 }) = true ∧
    after (execAll block (decodingAt 20 false)) (fun t => t.lastPosition == { x := 1, y := 2, z := 3 }) = true := by
  decide

/-- Vector D11: 65535 is a coordinate, not the sentinel. -/
theorem test_position_little_endian :
    after (execAll [.frame20 0xFF#8, .frame21 0xFF#8, .frame22 0x00#8, .frame23 0x00#8, .frame24 0x34#8, .frame25 0x12#8]
      (decodingAt 20 true)) (fun t => t.lastPosition == { x := 65535, y := 0, z := 4660 }) = true := by decide

/-- R178, R181, R183, R185, R190, R193, R197, R198: an ignored byte changes nothing but the offset. -/
theorem test_ignored_bytes :
    ((ignoredHandlers 0xFF#8).all fun ki =>
      after (exec ki.2 (decodingAt ki.1 true)) (fun t => t == decodingAt (ki.1 + 1) true)) = true := by decide

/-- R199: the end of a decode counts the frame. -/
theorem test_decode_end :
    after (step { decodingAt 32 true with frameCount := 0xFFFFFFFF#32 })
      (fun t => t.frameCount == 0#32 && t.buf == [] && t.phase == .rearm 0) = true := by decide

/-! ### Witnesses: a concrete state and operands for the hypotheses of each statement, and of each of its clauses -/

/-- The packet of a command word with a frame beside it. -/
def withFrame (w : Byte) (f : Frame) : Packet := ⟨w, { Operands.zero with frame := f }⟩

/-- `running` with the whole chain of one operation to call and nobody else to move. -/
def calls (w : Byte) (f : Frame) : State := { running with program := [withFrame w f] }

/-- A full frame, vector D12. -/
def frameD12 : Frame :=
  [0x1A#8, 0x02#8, 0x00#8, 0x00#8, 0x00#8, 0x00#8, 0x00#8, 0x03#8, 0x00#8, 0x00#8, 0x05#8, 0x00#8, 0x00#8, 0x00#8,
    0x40#8, 0x02#8, 0x00#8, 0x00#8, 0x10#8, 0x00#8, 0x01#8, 0x00#8, 0x02#8, 0x00#8, 0x03#8, 0x00#8]

/-- A short frame, vector D3: it ends after offset 10. -/
def frameD3 : Frame :=
  [0x0B#8, 0x03#8, 0x00#8, 0x00#8, 0x00#8, 0x00#8, 0x00#8, 0x00#8, 0x00#8, 0x00#8, 0x04#8]

theorem running_inv : MachineInv running := by
  refine ⟨by decide, ?_, by decide, .inr (by decide), by decide, by decide, by decide, rfl, by decide, by decide, rfl⟩
  intro l; cases l <;> decide

theorem witness_CleanReadAnswersTheCleanValues : running.phase = .idle ∧ fresh.phase = .idle := by decide

/-- Before the one construction, and after it; and an operation that answers next. -/
theorem witness_ConstructIsTheReset :
    (State.reset.phase = .idle ∧ State.reset.constructionDone = false) ∧
    (running.phase = .idle ∧ running.constructionDone = true) ∧
    (Instr.markClean.agent = .svc ∧ ∃ t, exec .markClean State.reset = .next t) := ⟨⟨rfl, rfl⟩, ⟨rfl, rfl⟩, rfl, _, rfl⟩

/-- The indices at the ends of both clauses. -/
theorem witness_SetGestureIrqPin :
    fresh.phase = .idle ∧ fresh.ready = false ∧ ((0 : Int) = (0 : Fin 4).val) ∧ ((3 : Int) = (3 : Fin 4).val) ∧
    ((-1 : Int) < 0 ∨ 3 < (-1 : Int)) ∧ ((4 : Int) < 0 ∨ 3 < (4 : Int)) := by decide

theorem witness_BeginEnablesTheAssignedLines :
    let s := { fresh with gestureIrqPins := #v[some 5, none, none, some 8] }
    s.phase = .idle ∧ s.ready = false ∧ s.gestureIrqPins[(0 : Fin 4).val] = some 5 ∧
      s.gestureIrqPins[(3 : Fin 4).val] = some 8 := by decide

theorem witness_LifecycleMisuseIsRefused : running.phase = .idle ∧ running.ready = true := by decide

theorem witness_MarkClean : running.phase = .idle ∧ running.lastPosition ≠ Position.invalid := by decide

theorem witness_AccessorsReadTheirRegister : running.phase = .idle := rfl

theorem witness_PositionReadsAreWhole : running.phase = .idle ∧ MachineInv running := ⟨rfl, running_inv⟩

theorem witness_EventCodeToLabelIsExactEquality :
    running.phase = .idle ∧
      (0x23#8 : Byte) ∉ [0x22#8, 0x24#8, 0x28#8, 0x30#8, 0x41#8, 0x42#8, 0x44#8, 0x48#8, 0x50#8] := by decide

theorem witness_DumpReportsSixValues : running.phase = .idle := rfl

theorem witness_DataReadyFiring : enabledIn running.lineEnabled .dataReady = true := by decide

theorem witness_GestureFiring :
    enabledIn running.lineEnabled .gesture0 = true ∧ enabledIn running.lineEnabled .gesture1 = true ∧
    enabledIn running.lineEnabled .gesture2 = true ∧ enabledIn running.lineEnabled .gesture3 = true := by decide

theorem witness_FiringWithoutCallback :
    enabledIn fresh.lineEnabled .dataReady = false ∧ enabledIn fresh.lineEnabled .gesture3 = false := by decide

theorem witness_FiringIsIdempotent :
    enabledIn running.lineEnabled .gesture0 = true ∧ pendingIn running.mask .gesture0 = true := by decide

theorem witness_FiringsCommute :
    enabledIn running.lineEnabled .gesture3 = true ∧ enabledIn running.lineEnabled .dataReady = true := by decide

theorem witness_ServiceWithNothingPending : fresh.phase = .idle ∧ fresh.mask = 0x00#8 := by decide

theorem fresh_inv : MachineInv fresh := by
  refine ⟨by decide, ?_, by decide, .inl rfl, by decide, by decide, by decide, rfl, by decide, by decide, rfl⟩
  intro l; cases l <;> decide

theorem witness_ServiceBeforeBeginFindsNothing : MachineInv fresh ∧ fresh.phase = .idle ∧ fresh.ready = false :=
  ⟨fresh_inv, rfl, rfl⟩

/-- The highest and the lowest line chosen. -/
theorem witness_ServiceChoosesTheHighestPriority :
    let s := { running with mask := 0x1F#8 }
    let u := { running with mask := 0x10#8 }
    (s.phase = .idle ∧ s.params.select = .snapshot ∧ pendingIn s.mask .dataReady = true ∧
      ∀ k, lineBit k < lineBit .dataReady → pendingIn s.mask k = false) ∧
    (u.phase = .idle ∧ u.params.select = .snapshot ∧ pendingIn u.mask .gesture3 = true ∧
      ∀ k, lineBit k < lineBit .gesture3 → pendingIn u.mask k = false) := by
  refine ⟨⟨rfl, rfl, by decide, ?_⟩, rfl, rfl, by decide, ?_⟩ <;> intro k <;> cases k <;> decide

/-- The tests: a line whose bit came up after the tests before it, a line not pending with a next one, and the last. -/
theorem witness_ChainedTests :
    let s := { running with mask := 0x03#8, phase := .testing .gesture0 [], turns := [.svc] }
    let u := { running with mask := 0x02#8, phase := .testing .gesture2 [] }
    let v := { running with mask := 0x02#8, phase := .testing .gesture3 [] }
    (svcMoves s = some { s with turns := [] } ∧ s.phase = .testing .gesture0 [] ∧ pendingIn s.mask .gesture0 = true) ∧
    (svcMoves u = some u ∧ u.phase = .testing .gesture2 [] ∧ pendingIn u.mask .gesture2 = false ∧
      lineBit .gesture3 = lineBit .gesture2 + 1) ∧
    (svcMoves v = some v ∧ v.phase = .testing .gesture3 [] ∧ pendingIn v.mask .gesture3 = false) := by
  refine ⟨⟨rfl, rfl, by decide⟩, ⟨rfl, rfl, by decide, rfl⟩, rfl, rfl, by decide⟩

theorem witness_ChainedServiceChoosesTheSameLine :
    let s := { calls 0x30#8 frameD3 with mask := 0x10#8, params := { params1 with select := .chained } }
    s.phase = .idle ∧ s.turns = [] ∧ s.params.select = .chained ∧ s.program = [withFrame 0x30#8 frameD3] ∧
      pendingIn s.mask .gesture3 = true ∧ ∀ k, lineBit k < lineBit .gesture3 → pendingIn s.mask k = false := by
  refine ⟨rfl, rfl, rfl, rfl, by decide, ?_⟩
  intro k; cases k <;> decide

/-- Both clauses: a gesture line, and the data-ready line. -/
theorem witness_ServiceClearsExactlyTheChosenBit :
    let s := { running with phase := .selected .gesture0 [] }
    let u := { running with mask := 0x03#8, phase := .selected .dataReady frameD3, turns := [.svc] }
    (svcMoves s = some s ∧ s.phase = .selected .gesture0 []) ∧
    (svcMoves u = some { u with turns := [] } ∧ u.phase = .selected .dataReady frameD3) := ⟨⟨rfl, rfl⟩, rfl, rfl⟩

/-- No event, and the most events. -/
theorem witness_ServiceRearmsAndAnswers :
    let s := { running with phase := .rearm 0 }
    let u := { running with phase := .rearm 4, turns := [.svc] }
    (svcMoves s = some s ∧ s.phase = .rearm 0) ∧ (svcMoves u = some { u with turns := [] } ∧ u.phase = .rearm 4) :=
  ⟨⟨rfl, rfl⟩, rfl, rfl⟩

/-- Vector SV10: line 0 fires between the read and the clear of gesture 1. -/
theorem witness_NoFiringIsLost :
    let s := { running with mask := 0x04#8, phase := .selected .gesture1 [], turns := [.irq 0x80#8, .svc] }
    s.phase = .selected .gesture1 [] ∧ Line.dataReady ≠ Line.gesture1 ∧
      s.turns = .irq (callbackWord .dataReady) :: .svc :: [] ∧ lineFires s .dataReady = true := by
  refine ⟨rfl, by decide, rfl, by decide⟩

/-- Program P6, line 2c. -/
theorem witness_RefiringBeforeTheRearm :
    let s := { running with phase := .rearm 1, turns := [.irq 0x80#8] }
    s.phase = .rearm 1 ∧ s.turns = [.irq 0x80#8] ∧ enabledIn s.lineEnabled .dataReady = true ∧
      s.params.envNoDrWhileLow = false := by
  refine ⟨rfl, rfl, by decide, rfl⟩

theorem witness_DecodeFrameRequestsOneTransfer :
    running.phase = .idle ∧ ∃ g, { running with phase := .calling frameD3 }.phase = .calling g :=
  ⟨rfl, frameD3, rfl⟩

/-- A decode stands at any offset: the ignored ones among them (the first and the last), and those of the clauses of the
handlers' statements. -/
theorem witness_decodingAt (off : Nat) (flag : Bool) : ∃ d, (decodingAt off flag).phase = .decoding d ∧
    d.off = off ∧ d.pv = flag ∧ d.av = flag := ⟨_, rfl, rfl, rfl, rfl⟩

theorem witness_IgnoredBytesOnlyAdvance :
    (2, Instr.frame2 0xFF#8) ∈ ignoredHandlers 0xFF#8 ∧ (31, Instr.frame31 0x00#8) ∈ ignoredHandlers 0x00#8 ∧
    (∃ d, (decodingAt 2 true).phase = .decoding d ∧ d.off = 2) ∧
    (∃ d, (decodingAt 4 true).phase = .decoding d ∧ d.off = 4) ∧
    (∃ d, (decodingAt 5 true).phase = .decoding d ∧ d.off = 5) ∧
    (∃ d, (decodingAt 31 true).phase = .decoding d ∧ d.off = 31) :=
  ⟨by decide, by decide, ⟨_, rfl, rfl⟩, ⟨_, rfl, rfl⟩, ⟨_, rfl, rfl⟩, ⟨_, rfl, rfl⟩⟩

/-- Both readings of the length byte. -/
theorem witness_DeclaredLengthRaisesTheBound :
    let u := { decodingAt 0 false with params := { params1 with lenReading := .literalMinusOne } }
    (∃ d, (decodingAt 0 false).phase = .decoding d ∧ d.off = 0) ∧
      (decodingAt 0 false).params.lenReading = .total ∧
    (∃ d, u.phase = .decoding d ∧ d.off = 0) ∧ u.params.lenReading = .literalMinusOne :=
  ⟨⟨_, rfl, rfl⟩, rfl, ⟨_, rfl, rfl⟩, rfl⟩

theorem witness_SystemInfoSetsTheTwoFlags :
    ∃ d, (decodingAt 7 false).phase = .decoding d ∧ d.off = 7 := ⟨_, rfl, rfl⟩

theorem witness_CodeBytesWriteTheirCode :
    (∃ d, (decodingAt 1 false).phase = .decoding d ∧ d.off = 1) ∧
    (∃ d, (decodingAt 10 false).phase = .decoding d ∧ d.off = 10) := ⟨⟨_, rfl, rfl⟩, ⟨_, rfl, rfl⟩⟩

theorem witness_TouchBytes :
    (∃ d, (decodingAt 14 false).phase = .decoding d ∧ d.off = 14) ∧
    (∃ d, (decodingAt 15 false).phase = .decoding d ∧ d.off = 15) := ⟨⟨_, rfl, rfl⟩, ⟨_, rfl, rfl⟩⟩

theorem witness_AirWheelAccumulatesSignedDelta :
    (∃ d, (decodingAt 18 true).phase = .decoding d ∧ d.off = 18 ∧ d.av = true) ∧
    (∃ d, (decodingAt 18 false).phase = .decoding d ∧ d.off = 18 ∧ d.av = false) :=
  ⟨⟨_, rfl, rfl, rfl⟩, ⟨_, rfl, rfl, rfl⟩⟩

theorem witness_PositionBytes :
    (∃ d, (decodingAt 20 true).phase = .decoding d ∧ d.off = 20 ∧ d.pv = true) ∧
    (∃ d, (decodingAt 20 false).phase = .decoding d ∧ d.off = 20 ∧ d.pv = false) ∧
    (∃ d, (decodingAt 21 true).phase = .decoding d ∧ d.off = 21) ∧
    (∃ d, (decodingAt 22 true).phase = .decoding d ∧ d.off = 22) ∧
    (∃ d, (decodingAt 23 true).phase = .decoding d ∧ d.off = 23) ∧
    (∃ d, (decodingAt 24 true).phase = .decoding d ∧ d.off = 24) ∧
    (∃ d, (decodingAt 25 true).phase = .decoding d ∧ d.off = 25 ∧ d.pv = true) ∧
    (∃ d, (decodingAt 25 false).phase = .decoding d ∧ d.off = 25 ∧ d.pv = false) :=
  ⟨⟨_, rfl, rfl, rfl⟩, ⟨_, rfl, rfl, rfl⟩, ⟨_, rfl, rfl⟩, ⟨_, rfl, rfl⟩, ⟨_, rfl, rfl⟩,
    ⟨_, rfl, rfl⟩, ⟨_, rfl, rfl, rfl⟩, ⟨_, rfl, rfl, rfl⟩⟩

/-- The first and the last firing value of each of the three formulas. -/
theorem witness_EventCodeValueTables :
    1 < (2#8 : Byte).toNat ∧ 1 < (255#8 : Byte).toNat ∧ 31 < (32#8 : Byte).toNat ∧ 31 < (255#8 : Byte).toNat ∧
    0 < (1#8 : Byte).toNat ∧ 0 < (4#8 : Byte).toNat := by decide

/-- No decode at all, and a decode at the next offset. -/
theorem witness_HandlerOutOfPlace :
    encode (.frame31 0x00#8) = .frame 31 0x00#8 ∧
    (∀ d, running.phase = .decoding d → d.off ≠ 31) ∧
    (∀ d, (decodingAt 32 true).phase = .decoding d → d.off ≠ 31) := by
  refine ⟨rfl, ?_, ?_⟩
  · intro d h; cases h
  · intro d h; cases h; decide

theorem witness_SecondServiceThread :
    (Instr.markClean).agent = .svc ∧ (decodingAt 0 false).phase ≠ .idle ∧
    (∀ f g, Instr.markClean = .decodeFrame f → (decodingAt 0 false).phase ≠ .calling g) ∧
    (Instr.decodeFrame []).agent = .svc ∧
    (∀ f g, Instr.decodeFrame [] = .decodeFrame f → (decodingAt 0 false).phase ≠ .calling g) := by
  refine ⟨rfl, by decide, ?_, rfl, ?_⟩
  · intro f g h; cases h
  · intro f g _ h; cases h

theorem witness_EncodeKeepsTheWord :
    decode (.op ⟨0x60#8, { Operands.zero with code := 0x22#8, pin := 9 }⟩) = .ok (.eventCodeToLabel 0x22#8) ∧
    decode (.frame 31 0xFF#8) = .ok (.frame31 0xFF#8) := ⟨rfl, rfl⟩

/-- The three clauses: a call, the last byte of a frame, and `decodeFrame` on the data-ready path. -/
theorem witness_StepRunsTheDecodedInstruction :
    (svcMoves (calls 0x30#8 frameD3) = some (calls 0x30#8 frameD3) ∧ (calls 0x30#8 frameD3).phase = .idle ∧
      (calls 0x30#8 frameD3).program = withFrame 0x30#8 frameD3 :: [] ∧
      decode (.op (withFrame 0x30#8 frameD3)) = .ok (.service frameD3) ∧ (Instr.service frameD3).agent = .svc) ∧
    (∃ d, svcMoves (decodingAt 31 true) = some (decodingAt 31 true) ∧
      (decodingAt 31 true).phase = .decoding d ∧ d.off < d.expected ∧ d.off < 32 ∧
      Memory.read (decodingAt 31 true).buf d.off = some 0x07#8 ∧
      decode (.frame d.off 0x07#8) = .ok (.frame31 0x07#8)) ∧
    (svcMoves { running with phase := .calling frameD3 } = some { running with phase := .calling frameD3 }) :=
  ⟨⟨rfl, rfl, rfl, rfl, rfl⟩, ⟨_, rfl, rfl, by decide, by decide, by decide, rfl⟩, rfl⟩

/-- The three clauses: a line that fires (one also under the optional assumption), one with no callback, one excluded. -/
theorem witness_EdgeRunsItsCallback :
    let s := { running with turns := [.irq (callbackWord .dataReady)] }
    let e := { s with params := { params1 with envNoDrWhileLow := true } }
    let low := { e with drLineMode := .holdLow }
    let off := { fresh with turns := [.irq (callbackWord .gesture3)] }
    (s.turns = .irq (callbackWord .dataReady) :: [] ∧ enabledIn s.lineEnabled .dataReady = true ∧
      s.params.envNoDrWhileLow = false) ∧
    (enabledIn e.lineEnabled .dataReady = true ∧ e.drLineMode = .sense) ∧
    (off.turns = .irq (callbackWord .gesture3) :: [] ∧ enabledIn off.lineEnabled .gesture3 = false) ∧
    (low.params.envNoDrWhileLow = true ∧ low.drLineMode = .holdLow) :=
  ⟨⟨rfl, rfl, rfl⟩, ⟨rfl, rfl⟩, ⟨rfl, rfl⟩, rfl, rfl⟩

theorem witness_OtherContextsOperation :
    (svcMoves (calls 0x84#8 []) = some (calls 0x84#8 []) ∧ (calls 0x84#8 []).phase = .idle ∧
      (calls 0x84#8 []).program = withFrame 0x84#8 [] :: [] ∧ (withFrame 0x84#8 []).word = callbackWord .gesture3) ∧
    ({ running with turns := [.irq 0x30#8] }.turns = .irq 0x30#8 :: [] ∧
      decode (.op ⟨0x30#8, Operands.zero⟩) = .ok (.service []) ∧ (Instr.service []).agent = .svc) ∧
    (svcMoves (calls 0xA0#8 []) = some (calls 0xA0#8 []) ∧ (calls 0xA0#8 []).phase = .idle ∧
      (calls 0xA0#8 []).program = withFrame 0xA0#8 [] :: [] ∧
      decode (.op (withFrame 0xA0#8 [])) = .error (.unusedSelect 0xA0#8)) ∧
    ({ running with turns := [.irq 0x85#8] }.turns = .irq 0x85#8 :: [] ∧
      decode (.op ⟨0x85#8, Operands.zero⟩) = .error (.noSuchLine 0x85#8)) ∧
    ((calls 0x90#8 frameD3).phase = .idle ∧ (withFrame 0x90#8 frameD3).word = 0x90#8) :=
  ⟨⟨rfl, rfl, rfl, rfl⟩, ⟨rfl, rfl, rfl⟩, ⟨rfl, rfl, rfl, rfl⟩, ⟨rfl, rfl⟩, rfl, rfl⟩

/-- The three ways a decode ends. -/
theorem witness_DecodeEndsByCountingTheFrame :
    let short := { running with buf := [(0, 0x01#8)], phase := .decoding { startDecode params1 with off := 1 } }
    (∃ d, (decodingAt 32 true).phase = .decoding d ∧ d.expected ≤ d.off ∧ 32 ≤ d.off) ∧
    (∃ d, svcMoves short = some short ∧ short.phase = .decoding d ∧ d.expected ≤ d.off ∧
      Memory.read short.buf d.off = none) :=
  ⟨⟨_, rfl, by decide, by decide⟩, _, rfl, rfl, by decide, by decide⟩

theorem witness_StepKeepsInv : MachineInv running ∧ ∃ t, step running = .next t := ⟨running_inv, _, rfl⟩

/-- A bit that becomes 1 (a callback), one that becomes 0 (a clear, and `construct`). -/
theorem witness_PendingBitsChangeOnlyByTheirOwners :
    (∃ t, step { running with turns := [.irq 0x80#8] } = .next t ∧ pendingIn running.mask .dataReady = false ∧
      pendingIn t.mask .dataReady = true) ∧
    (∃ t, step { running with phase := .selected .gesture0 [] } = .next t ∧ pendingIn running.mask .gesture0 = true ∧
      pendingIn t.mask .gesture0 = false) ∧
    (∃ t, step { calls 0x00#8 [] with constructionDone := false } = .next t ∧ pendingIn t.mask .gesture0 = false) ∧
    MachineInv { running with phase := .selected .gesture0 [] } := by
  refine ⟨⟨_, rfl, by decide, by decide⟩, ⟨_, rfl, by decide, by decide⟩, ⟨_, rfl, by decide⟩, ?_⟩
  exact { running_inv with phase_ok := ⟨rfl, by decide⟩, construction_first := by decide }

theorem witness_InterruptContext :
    ∃ t, step { decodingAt 3 false with turns := [.irq 0x80#8] } = .next t ∧ t.drLineMode = .holdLow := ⟨_, rfl, rfl⟩

theorem witness_InterruptsCommuteWithDecoding :
    ∃ d, (decodingAt 10 true).phase = .decoding d := ⟨_, rfl⟩

/-- A step that counts a frame, and one that does not. -/
theorem witness_FrameCountCountsDecodes :
    (∃ t, step (decodingAt 32 true) = .next t ∧ ¬ callsConstruct (decodingAt 32 true) ∧ t.frameCount = 2#32) ∧
    (∃ t, step (decodingAt 31 true) = .next t ∧ ¬ callsConstruct (decodingAt 31 true) ∧ t.frameCount = 1#32) := by
  refine ⟨⟨_, rfl, ?_, by decide⟩, _, rfl, ?_, by decide⟩ <;> rintro ⟨h, -⟩ <;> cases h

theorem witness_ConfigurationIsIrreversible :
    ∃ t, step (calls 0x40#8 []) = .next t ∧ ¬ callsConstruct (calls 0x40#8 []) ∧ (calls 0x40#8 []).ready = true ∧
      (calls 0x40#8 []).constructionDone = true := by
  refine ⟨_, rfl, ?_, rfl, rfl⟩
  rintro ⟨h, -⟩
  cases h

/-- The commit at offset 25, and `markClean`. -/
theorem witness_PositionIsReplacedWhole :
    (∃ t, step (decodingAt 25 true) = .next t ∧ t.lastPosition ≠ (decodingAt 25 true).lastPosition) ∧
    (∃ t, step (calls 0x40#8 []) = .next t ∧ t.lastPosition ≠ (calls 0x40#8 []).lastPosition) :=
  ⟨⟨_, rfl, by decide⟩, _, rfl, by decide⟩

theorem witness_DecoderNeverClears :
    ∃ t d, (decodingAt 10 true).phase = .decoding d ∧ step (decodingAt 10 true) = .next t ∧
      (∃ s', svcMoves (decodingAt 10 true) = some s') := ⟨_, _, rfl, rfl, _, rfl⟩

theorem witness_DecodeEnds :
    ∃ d, (decodingAt 0 false).phase = .decoding d ∧ (decodingAt 0 false).turns = [] := ⟨_, rfl, rfl⟩

/-- `running`, in the middle of a `service` that is about to decode a frame. -/
def decodes (f : Frame) : State := { running with drLineMode := .holdLow, phase := .calling f }

theorem witness_WholeDecode :
    (decodes frameD12).phase = .calling frameD12 ∧ (decodes frameD12).turns = [] := ⟨rfl, rfl⟩

/-- `events` of vector D12, and the bytes its decode consumes. -/
theorem test_frameD12_consumed_and_events :
    consumed params1 frameD12 = 26 ∧ eventsIn frameD12 26 = 4 := by decide

theorem witness_WholeServiceDecodesOneFrame :
    let s := { calls 0x30#8 frameD12 with mask := 0x03#8, drLineMode := .holdLow }
    s.phase = .idle ∧ s.turns = [] ∧ s.params.select = .snapshot ∧
      s.program = ⟨0x30#8, { Operands.zero with frame := frameD12 }⟩ :: [] ∧ pendingIn s.mask .dataReady = true :=
  ⟨rfl, rfl, rfl, rfl, by decide⟩

/-- The first and the last gesture line. -/
theorem witness_WholeServiceOfAGestureLine :
    let s := calls 0x30#8 []
    let u := { calls 0x30#8 [] with mask := 0x10#8 }
    (s.phase = .idle ∧ s.turns = [] ∧ s.params.select = .snapshot ∧ s.program = ⟨0x30#8, Operands.zero⟩ :: [] ∧
      Line.gesture0 ≠ .dataReady ∧ pendingIn s.mask .gesture0 = true ∧
      ∀ k, lineBit k < lineBit .gesture0 → pendingIn s.mask k = false) ∧
    (pendingIn u.mask .gesture3 = true ∧ ∀ k, lineBit k < lineBit .gesture3 → pendingIn u.mask k = false) := by
  refine ⟨⟨rfl, rfl, rfl, rfl, by decide, by decide, ?_⟩, by decide, ?_⟩ <;> intro k <;> cases k <;> decide

theorem witness_TransferEndingAfterOffset10 :
    (decodes frameD3).phase = .calling frameD3 ∧ (decodes frameD3).turns = [] ∧
      consumed (decodes frameD3).params frameD3 = 11 ∧ frameD3[10]? = some 0x04#8 := ⟨rfl, rfl, by decide, rfl⟩

/-- The flag clear (frame D3 has offset 7 = 0), and 25 bytes consumed with the flag set (as in vector D10). -/
theorem witness_PositionIsGatedByItsFlag :
    let d10 := 0x19#8 :: frameD12.tail.take 24
    ((decodes frameD3).phase = .calling frameD3 ∧ (decodes frameD3).turns = [] ∧
      ∀ b, frameD3[7]? = some b → b.toNat % 2 = 0) ∧
    ((decodes d10).phase = .calling d10 ∧ d10[7]? = some 0x03#8 ∧ consumed (decodes d10).params d10 < 26 ∧
      consumed (decodes d10).params d10 = 25) := by
  refine ⟨⟨rfl, rfl, ?_⟩, rfl, rfl, by decide, by decide⟩
  intro b h
  cases h
  decide

end Sys2Proof.Tests
end

section
/-! The marker register (40_marker_register.md): what the callback of a gesture line does, said once for the four lines. -/

namespace Sys2Proof.Safety

open Sys2Proof.Machine

/-- Gesture line `k` has line identifier `1 + k`, so its flag is that bit of `mask` (R24, R92). -/
theorem lineFlag_gestureLine (k : Fin 4) : lineFlag (gestureLine k) = 1#8 <<< (1 + k.val) := by
  fin_cases k <;> rfl

theorem gestureLine_ne_dataReady (k : Fin 4) : gestureLine k ≠ .dataReady := by
  fin_cases k <;> decide

/-- The four gesture lines behave identically except for the bit they set (R132): the callback of an enabled one is
`setPending` alone, since only the data-ready line adds an acknowledgement. -/
theorem exec_callbackInstr_gestureLine {s : State} (k : Fin 4) (h : enabledIn s.lineEnabled (gestureLine k) = true) :
    exec (callbackInstr (gestureLine k)) s = .next { s with mask := s.mask ||| 1#8 <<< (1 + k.val) } :=
  calc exec (callbackInstr (gestureLine k)) s
    _ = .next (setPending (gestureLine k) s) := by rw [exec_callbackInstr h, if_neg (gestureLine_ne_dataReady k)]
    _ = .next { s with mask := s.mask ||| 1#8 <<< (1 + k.val) } := by rw [setPending, maskSet, lineFlag_gestureLine]

/-- Settles O13: the four clauses are the instances of `exec_callbackInstr_gestureLine`, where `1#8 <<< (1 + k)` computes
to `0x02`, `0x04`, `0x08` and `0x10`. -/
theorem gestureFiringSetsItsBitOnly : Obligations.GestureFiringSetsItsBitOnly := fun _ =>
  ⟨exec_callbackInstr_gestureLine 0, exec_callbackInstr_gestureLine 1, exec_callbackInstr_gestureLine 2,
    exec_callbackInstr_gestureLine 3⟩

end Sys2Proof.Safety
end

section
/-! The service routine (41_service.md): what a call that finds no pending line does. -/

namespace Sys2Proof.Safety

open Sys2Proof.Machine

/-- Where no call is in progress, a return only sets the result: `phase` is idle already. -/
theorem returns_of_idle {s : State} (hp : s.phase = .idle) (r : Result) : returns r s = { s with result := r } := by
  rw [returns, ← hp]

/-- R152: `service` looks at nothing but its one read of `mask`, so whenever that read is 0 the call ends at once. Bits 7
to 5 play no part (R24). -/
theorem exec_service_of_readableMask_eq_zero {s : State} (f : Frame) (hp : s.phase = .idle)
    (hm : readableMask s.mask = 0) :
    exec (.service f) s = .next { s with result := .value 0, constructionDone := true } := by
  have hread : readMask (pastConstruction s) = 0 := hm
  have hidle : (pastConstruction s).phase = .idle := hp
  calc exec (.service f) s
    _ = execService f s := rfl
    _ = .next (returns (.value 0) (pastConstruction s)) := by rw [execService, svcOp_of_idle hp, if_pos hread]
    _ = .next { s with result := .value 0, constructionDone := true } := by
      rw [returns_of_idle hidle, pastConstruction]

/-- Settles O17: a `mask` of 0 reads as 0. -/
theorem serviceWithNothingPending : Obligations.ServiceWithNothingPending := fun s f hp hm =>
  have hread : readableMask s.mask = 0 := by rw [hm]; rfl
  exec_service_of_readableMask_eq_zero f hp hread

end Sys2Proof.Safety
end

section
/-! The ignored bytes and the data-output mask (30_encoding.md R108, 42_frame_decoder.md R179 and R180). -/

namespace Sys2Proof.Safety

open Sys2Proof.Machine

/-- The 17 handlers the table calls "ignored" have one meaning, at their own offsets (R108). -/
theorem exec_ignoredHandlers {b : Byte} {ki : Nat × Instr} (h : ki ∈ ignoredHandlers b) (s : State) :
    exec ki.2 s = ignoreByte ki.1 s :=
  have entrywise : (ignoredHandlers b).map (fun ki => exec ki.2 s) =
      (ignoredHandlers b).map (fun ki => ignoreByte ki.1 s) := rfl
  List.map_inj_left.1 entrywise ki h

/-- An ignored byte moves the offset counter and nothing else. -/
theorem ignoreByte_of_decoding {k : Nat} {s : State} {d : Decode} (h : s.phase = .decoding d) (hk : d.off = k) :
    ignoreByte k s = .next { s with phase := .decoding { d with off := k + 1 } } :=
  handleByte_of_decoding h hk

/-- The low half of a 16-bit field is the byte's value. -/
theorem lowByte_eq_ofNat (b : Byte) : lowByte b = BitVec.ofNat 16 b.toNat :=
  (BitVec.ofNat_toNat 16 b).symm

/-- The high half of a 16-bit field joins as 256 times the byte's value. -/
theorem joinHigh_eq_ofNat (v : BitVec 16) (b : Byte) : joinHigh v b = v ||| BitVec.ofNat 16 (256 * b.toNat) := by
  have shifted : b.setWidth 16 <<< 8 = BitVec.ofNat 16 (256 * b.toNat) := by
    apply BitVec.eq_of_toNat_eq
    simp only [BitVec.toNat_shiftLeft, BitVec.toNat_setWidth, BitVec.toNat_ofNat, Nat.shiftLeft_eq]
    omega
  rw [joinHigh, shifted]

/-- Settles O26: the ignored handlers are one operation; offsets 4 and 5 assemble the mask transient and write no
register. -/
theorem ignoredBytesOnlyAdvance : Obligations.IgnoredBytesOnlyAdvance := by
  intro s d b hp
  refine ⟨fun ki hki hoff => ?_, fun hoff => ?_, fun hoff => ?_⟩
  · rw [exec_ignoredHandlers hki, ignoreByte_of_decoding hp hoff]
  · calc exec (.frame4 b) s
      _ = execFrame4 b s := rfl
      _ = .next (goTo (.decoding { d with dataOutputMask := lowByte b, off := 5 }) s) :=
        handleByte_of_decoding hp hoff
      _ = _ := by rw [lowByte_eq_ofNat, goTo]
  · calc exec (.frame5 b) s
      _ = execFrame5 b s := rfl
      _ = .next (goTo (.decoding { d with dataOutputMask := joinHigh d.dataOutputMask b, off := 6 }) s) :=
        handleByte_of_decoding hp hoff
      _ = _ := by rw [joinHigh_eq_ofNat, goTo]

end Sys2Proof.Safety
end

section
/-! The decode loop (42_frame_decoder.md R171, R204): an uninterrupted decode consumes the bytes `0 .. consumed - 1` of its
frame, one a step, and then ends. The induction is done here once; `wholeDecode_of_invariant` leaves to each statement
about a whole decode what the start and one byte do. -/

namespace Sys2Proof.Safety

open Sys2Proof.Machine

/-- The bound offset 0 leaves is the one the whole-decode statements are written with (R204, R206). -/
theorem declareLength_initExpected (p : Params) (b0 : Byte) :
    declareLength p.lenReading p.initExpected b0 = lengthBound p b0 := by
  unfold declareLength lengthBound
  cases p.lenReading with
  | total => dsimp only; split <;> omega
  | literalMinusOne => rfl

/-- A decode expects at least the byte at offset 0 (R10, D4). -/
theorem initExpected_pos (p : Params) : 0 < p.initExpected := Nat.succ_pos _

theorem initExpected_le_lengthBound (p : Params) (b0 : Byte) : p.initExpected ≤ lengthBound p b0 := by
  rw [← declareLength_initExpected]
  unfold declareLength
  cases p.lenReading <;> dsimp only <;> split <;> omega

/-- The bytes consumed: delivered, below 32 and below the bound (R204). -/
theorem lt_consumed_iff {p : Params} {f : Frame} {b0 : Byte} (h0 : f[0]? = some b0) (k : Nat) :
    k < consumed p f ↔ k < f.length ∧ k < maxRequest ∧ k < lengthBound p b0 := by
  cases f with
  | nil => cases h0
  | cons c0 cs =>
    cases h0
    rw [consumed, Nat.lt_min, Nat.lt_min]

/-- `t`, with the transients `d`, is a state of the uninterrupted decode of `f` that was called in `s`: `k` bytes are
consumed. -/
structure DecodeAt (s : State) (f : Frame) (k : Nat) (t : State) (d : Decode) : Prop where
  phase : t.phase = .decoding d
  turns : t.turns = []
  buf : t.buf = transfer maxRequest f
  params : t.params = s.params
  off : d.off = k
  expected_first : k = 0 → d.expected = s.params.initExpected
  expected_later : ∀ b0, f[0]? = some b0 → 0 < k → d.expected = lengthBound s.params b0

/-- The loop's bound is the frame's: before the length byte is read, both let offset 0 pass. -/
theorem DecodeAt.lt_expected_iff {s t : State} {f : Frame} {k : Nat} {d : Decode} {b0 : Byte} (h : DecodeAt s f k t d)
    (h0 : f[0]? = some b0) : k < d.expected ↔ k < lengthBound s.params b0 := by
  rcases Nat.eq_zero_or_pos k with rfl | hk
  · have hpos := initExpected_pos s.params
    have hle := initExpected_le_lengthBound s.params b0
    rw [h.expected_first rfl]
    omega
  · rw [h.expected_later b0 h0 hk]

/-- The loop goes on exactly while bytes are left to consume, and takes the byte at its offset. -/
theorem DecodeAt.nextByte_eq_some_iff {s t : State} {f : Frame} {k : Nat} {d : Decode} {b : Byte}
    (h : DecodeAt s f k t d) : nextByte d t = some b ↔ k < consumed s.params f ∧ f[k]? = some b := by
  have read : Memory.read t.buf k = if k < maxRequest then f[k]? else none := by rw [h.buf, Memory.read_transfer]
  rw [nextByte_eq_some, h.off, read]
  cases f with
  | nil => simp
  | cons b0 bs =>
    have h0 : (b0 :: bs)[0]? = some b0 := rfl
    rw [lt_consumed_iff h0, h.lt_expected_iff h0]
    constructor
    · rintro ⟨hlb, h32, hb⟩
      rw [if_pos h32] at hb
      exact ⟨⟨(List.getElem?_eq_some_iff.1 hb).1, h32, hlb⟩, hb⟩
    · rintro ⟨⟨-, h32, hlb⟩, hb⟩
      exact ⟨hlb, h32, by rw [if_pos h32, hb]⟩

/-- With no other turn, a decode's next step is its next byte's. -/
theorem DecodeAt.fetch_eq {s t : State} {f : Frame} {k : Nat} {d : Decode} (h : DecodeAt s f k t d) :
    fetch t = fetchByte d t := by
  rw [fetch_of_svcMoves (svcMoves_of_no_turns h.turns), fetchSvc_of_decoding h.phase]

/-- The step that calls `decodeFrame` (R170, R174). -/
theorem step_calling {s : State} {f : Frame} (hp : s.phase = .calling f) (ht : s.turns = []) :
    step s = .next (beginDecode f s) := by
  have hf : fetch s = .run (.decodeFrame f) s := by
    rw [fetch_of_svcMoves (svcMoves_of_no_turns ht), fetchSvc_of_calling hp]
  rw [step_of_run hf, exec, execDecodeFrame, hp]

theorem decodeAt_start {s : State} (f : Frame) (ht : s.turns = []) :
    DecodeAt s f 0 (beginDecode f s) (startDecode s.params) where
  phase := rfl
  turns := ht
  buf := rfl
  params := rfl
  off := rfl
  expected_first := fun _ => rfl
  expected_later := fun _ _ h => absurd h (Nat.lt_irrefl 0)

/-- A byte's effect leaves the decode one byte further. -/
theorem DecodeAt.byte {s t t' : State} {f : Frame} {k : Nat} {d d' : Decode} {b : Byte} (h : DecodeAt s f k t d)
    (hb : f[k]? = some b) (he : ByteEffect d b t t' d') : DecodeAt s f (k + 1) t' d' where
  phase := congrArg State.phase he.frame
  turns := (congrArg State.turns he.frame).trans h.turns
  buf := (congrArg State.buf he.frame).trans h.buf
  params := (congrArg State.params he.frame).trans h.params
  off := by rw [he.off, h.off]
  expected_first := fun h0 => absurd h0 (Nat.succ_ne_zero k)
  expected_later := by
    intro b0 h0 _
    rw [he.expected, h.off, h.params]
    rcases Nat.eq_zero_or_pos k with rfl | hk
    · cases hb.symm.trans h0
      rw [if_pos rfl, h.expected_first rfl, declareLength_initExpected]
    · rw [if_neg hk.ne', h.expected_later b0 h0 hk]

/-- While bytes are left, a step consumes the next one. -/
theorem DecodeAt.step_byte {s t : State} {f : Frame} {k : Nat} {d : Decode} {b : Byte} (h : DecodeAt s f k t d)
    (hk : k < consumed s.params f) (hb : f[k]? = some b) : ∃ t' d', step t = .next t' ∧ ByteEffect d b t t' d' := by
  have hn : nextByte d t = some b := h.nextByte_eq_some_iff.2 ⟨hk, hb⟩
  have h32 : d.off < 32 := (nextByte_eq_some.1 hn).2.1
  obtain ⟨i, hi, -⟩ := decodeByte_of_lt h32 b
  obtain ⟨t', d', hx, he⟩ := byte_effect h.phase h32 hi
  have hf : fetch t = .run i t := h.fetch_eq.trans (fetchByte_of_some hn hi)
  exact ⟨t', d', (step_of_run hf).trans hx, he⟩

/-- Once every byte is consumed, a step ends the decode (R199). -/
theorem DecodeAt.step_end {s t : State} {f : Frame} {d : Decode} (h : DecodeAt s f (consumed s.params f) t d) :
    step t = .next (finishDecode d t) := by
  have hn : nextByte d t = none :=
    Option.eq_none_iff_forall_ne_some.2 fun b hb => Nat.lt_irrefl _ (h.nextByte_eq_some_iff.1 hb).1
  exact step_of_moved (h.fetch_eq.trans (fetchByte_of_none hn))

/-- Every byte to be consumed was delivered. -/
theorem exists_byte_of_lt_consumed {p : Params} {f : Frame} {k : Nat} (h : k < consumed p f) : ∃ b, f[k]? = some b := by
  cases f with
  | nil => exact absurd h (Nat.not_lt_zero k)
  | cons b0 bs => exact ⟨_, List.getElem?_eq_getElem ((lt_consumed_iff rfl k).1 h).1⟩

/-- `P k` is an invariant of the decode of `f` called in `s`: it holds of the start and each consumed byte keeps it. -/
structure DecodeInvariant (s : State) (f : Frame) (P : Nat → State → Decode → Prop) : Prop where
  start : P 0 (beginDecode f s) (startDecode s.params)
  byte : ∀ {k b t t' d d'}, k < consumed s.params f → f[k]? = some b → d.off = k → ByteEffect d b t t' d' →
    P k t d → P (k + 1) t' d'

/-- An invariant of the decode holds after each of its bytes. -/
theorem DecodeInvariant.after_bytes {s : State} {f : Frame} {P : Nat → State → Decode → Prop}
    (hP : DecodeInvariant s f P) (hp : s.phase = .calling f) (ht : s.turns = []) {k : Nat}
    (hk : k ≤ consumed s.params f) : ∃ t d, runFor (k + 1) s = .next t ∧ DecodeAt s f k t d ∧ P k t d := by
  induction k with
  | zero => exact ⟨_, _, by rw [runFor_next (step_calling hp ht), runFor_zero], decodeAt_start f ht, hP.start⟩
  | succ k ih =>
    obtain ⟨t, d, hrun, hat, hinv⟩ := ih (Nat.le_of_succ_le hk)
    obtain ⟨b, hb⟩ := exists_byte_of_lt_consumed hk
    obtain ⟨t', d', hstep, he⟩ := hat.step_byte hk hb
    refine ⟨t', d', ?_, hat.byte hb he, hP.byte hk hb hat.off he hinv⟩
    rw [runFor_add hrun, runFor_next hstep, runFor_zero]

/-- The rule for a whole uninterrupted decode: an invariant holds of the transients and registers it ends with. -/
theorem wholeDecode_of_invariant {s : State} {f : Frame} {P : Nat → State → Decode → Prop}
    (hP : DecodeInvariant s f P) (hp : s.phase = .calling f) (ht : s.turns = []) :
    ∃ t d, runFor (consumed s.params f + 2) s = .next (finishDecode d t) ∧ P (consumed s.params f) t d := by
  obtain ⟨t, d, hrun, hat, hinv⟩ := hP.after_bytes hp ht le_rfl
  have hend : runFor 1 t = .next (finishDecode d t) := by rw [runFor_next hat.step_end, runFor_zero]
  exact ⟨t, d, (runFor_add hrun).trans hend, hinv⟩

end Sys2Proof.Safety
end

section
/-! What a decode that stops early or carries no position leaves alone (42_frame_decoder.md R201, R202). -/

namespace Sys2Proof.Safety

open Sys2Proof.Machine

/-- What holds after `k` bytes, at most 11 of them, where `b` is the byte at offset 10: the outputs of offsets 14 and
above are as before the decode, and only offset 10 has counted. -/
structure UntilOffset10 (s : State) (b : Byte) (k : Nat) (t : State) (d : Decode) : Prop where
  tap : t.lastTapCode = s.lastTapCode
  wheel : t.airWheelAccumulator = s.airWheelAccumulator
  position : t.lastPosition = s.lastPosition
  events : d.events = if 10 < k ∧ 1 < b.toNat then 1 else 0

theorem untilOffset10_invariant {s : State} {f : Frame} {b : Byte} (hc : consumed s.params f = 11)
    (h10 : f[10]? = some b) : DecodeInvariant s f (UntilOffset10 s b) where
  start := ⟨rfl, rfl, rfl, rfl⟩
  byte := by
    intro k b' t t' d d' hk hb hoff he ⟨htap, hwheel, hpos, hev⟩
    have hk : k ≤ 10 := by omega
    constructor
    case tap => rw [he.tap, if_neg (by omega), if_neg (by omega), htap]
    case wheel => rw [he.wheel, if_neg (by omega), hwheel]
    case position => rw [he.position, if_neg (by omega), hpos]
    case events =>
      rcases Nat.lt_or_eq_of_le hk with hlt | rfl
      · rw [he.events, hev, if_neg (by omega), if_neg (by omega), if_neg (by omega)]
      · cases hb.symm.trans h10
        rw [he.events, hev]
        simp [hoff, codeFires]

/-- Settles O59: `untilOffset10_invariant` at its last byte, and the step that ends the decode writes none of these
registers. -/
theorem transferEndingAfterOffset10 : Obligations.TransferEndingAfterOffset10 := by
  intro s f b hp ht hc h10
  obtain ⟨t, d, hrun, hinv⟩ := wholeDecode_of_invariant (untilOffset10_invariant hc h10) hp ht
  rw [hc] at hrun hinv
  refine ⟨finishDecode d t, hrun, hinv.tap, hinv.wheel, hinv.position, ?_⟩
  have hev : d.events = if 1 < b.toNat then 1 else 0 := by simpa using hinv.events
  rw [finishDecode, goTo_phase, hev]

/-- The frame brings no position: its byte at offset 7, if it has one, has bit 0 clear. -/
def PositionFlagClear (f : Frame) : Prop := ∀ b, f[7]? = some b → b.toNat % 2 = 0

theorem positionValid_eq_false {b : Byte} (h : b.toNat % 2 = 0) : positionValid b = false := by
  simp [positionValid, BitVec.getLsbD, h]

/-- The position as it was before the decode, and the flag unset where the frame leaves it clear. -/
structure PositionUntouched (s : State) (f : Frame) (t : State) (d : Decode) : Prop where
  position : t.lastPosition = s.lastPosition
  flag : PositionFlagClear f → d.pv = false

/-- Only offset 25 writes the position, and only with the flag set; only offset 7 sets the flag. -/
theorem positionUntouched_invariant {s : State} {f : Frame}
    (h : PositionFlagClear f ∨ consumed s.params f < 26) :
    DecodeInvariant s f fun _ => PositionUntouched s f where
  start := ⟨rfl, fun _ => rfl⟩
  byte := by
    intro k b t t' d d' hk hb hoff he ⟨hpos, hflag⟩
    constructor
    case position =>
      have noCommit : ¬(d.off = 25 ∧ d.pv = true) := by
        rintro ⟨h25, hpv⟩
        rcases h with hclear | hshort
        · rw [hflag hclear] at hpv
          cases hpv
        · omega
      rw [he.position, if_neg noCommit, hpos]
    case flag =>
      intro hclear
      rw [he.pv]
      split
      · next h7 => exact positionValid_eq_false (hclear b (by rw [← h7, hoff, hb]))
      · exact hflag hclear

/-- Settles O60: `positionUntouched_invariant` through the whole decode, whose last step leaves the position alone. -/
theorem positionIsGatedByItsFlag : Obligations.PositionIsGatedByItsFlag := by
  intro s f hp ht h
  obtain ⟨t, d, hrun, hinv⟩ := wholeDecode_of_invariant (positionUntouched_invariant h) hp ht
  exact ⟨finishDecode d t, d.events, hrun, rfl, hinv.position⟩

end Sys2Proof.Safety
end

section
/-! The accessors after `markClean` (43_state_ops.md R230 to R235, R242): what they read is the five registers `markClean`
resets, and no interrupt writes those. -/

namespace Sys2Proof.Safety

open Sys2Proof.Machine

/-- The five registers `markClean` resets stand at their clean values (R230). -/
structure Clean (s : State) : Prop where
  position : s.lastPosition = Position.invalid
  swipe : s.lastSwipeCode = 0x00#8
  tap : s.lastTapCode = 0x00#8
  generic : s.lastGenericEventCode = 0x00#8
  airWheel : s.airWheelAccumulator = 0#16

theorem clean_cleaned (s : State) : Clean (cleaned s) :=
  ⟨cleaned_lastPosition s, cleaned_lastSwipeCode s, cleaned_lastTapCode s, cleaned_lastGenericEventCode s,
    cleaned_airWheelAccumulator s⟩

/-- A return writes the result and no register. -/
theorem Clean.returned {s : State} (h : Clean s) (r : Result) : Clean (returns r s) :=
  ⟨h.position, h.swipe, h.tap, h.generic, h.airWheel⟩

/-- What interrupts write is none of the five registers (40_marker_register.md R134). -/
theorem Clean.interrupted {s : State} (h : Clean s) (m : BitVec 8) (dr : DrLineMode) :
    Clean { s with mask := m, drLineMode := dr } :=
  ⟨h.position, h.swipe, h.tap, h.generic, h.airWheel⟩

theorem exec_markClean_of_idle {s : State} (hp : s.phase = .idle) :
    exec .markClean s = .next (returns .none (cleaned (pastConstruction s))) :=
  calc exec .markClean s
    _ = execMarkClean s := rfl
    _ = .next (returns .none (cleaned (pastConstruction s))) := by rw [execMarkClean, svcOp_of_idle hp]

/-- An operation that only answers a value of the state answers it whenever SVC is idle. -/
theorem exec_result_of_answer {i : Instr} {s : State} (r : State → Result) {v : Result} (hi : exec i s = answer r s)
    (hp : s.phase = .idle) (hv : r (pastConstruction s) = v) : ∃ u, exec i s = .next u ∧ u.result = v :=
  ⟨returns (r (pastConstruction s)) (pastConstruction s), hi.trans (answer_eq_next.2 ⟨hp, rfl⟩), hv⟩

/-- Each axis of the sentinel position reads as -1 (R231). -/
theorem Clean.position_reads {s : State} (h : Clean s) (hp : s.phase = .idle) :
    ∀ i ∈ [Instr.readRegX, .readRegY, .readRegZ], ∃ u, exec i s = .next u ∧ u.result = .value (-1) := by
  have hpos : (pastConstruction s).lastPosition = Position.invalid := h.position
  simp only [List.forall_mem_cons]
  refine ⟨?x, ?y, ?z, List.forall_mem_nil _⟩
  case x => exact exec_result_of_answer (fun s => .value s.lastPosition.x.toInt) rfl hp (by rw [hpos]; rfl)
  case y => exact exec_result_of_answer (fun s => .value s.lastPosition.y.toInt) rfl hp (by rw [hpos]; rfl)
  case z => exact exec_result_of_answer (fun s => .value s.lastPosition.z.toInt) rfl hp (by rw [hpos]; rfl)

/-- The three event codes and the air wheel read as 0 (R232 to R235). -/
theorem Clean.code_reads {s : State} (h : Clean s) (hp : s.phase = .idle) :
    ∀ i ∈ [Instr.readRegSwipe, .readRegTap, .readRegGeneric, .readRegAirwheel],
      ∃ u, exec i s = .next u ∧ u.result = .value 0 := by
  simp only [List.forall_mem_cons]
  refine ⟨?swipe, ?tap, ?generic, ?airWheel, List.forall_mem_nil _⟩
  case swipe =>
    exact exec_result_of_answer (fun s => .value s.lastSwipeCode.toNat) rfl hp (by simp [h.swipe])
  case tap =>
    exact exec_result_of_answer (fun s => .value s.lastTapCode.toNat) rfl hp (by simp [h.tap])
  case generic =>
    exact exec_result_of_answer (fun s => .value s.lastGenericEventCode.toNat) rfl hp (by simp [h.generic])
  case airWheel =>
    exact exec_result_of_answer (fun s => .value s.airWheelAccumulator.toInt) rfl hp (by simp [h.airWheel])

/-- Settles O7: `markClean` leaves a clean state, an interrupt keeps it clean and idle, and a clean state reads as the
clean values. -/
theorem cleanReadAnswersTheCleanValues : Obligations.CleanReadAnswersTheCleanValues := by
  intro s hp
  refine ⟨_, exec_markClean_of_idle hp, fun m dr => ?_⟩
  have hclean := ((clean_cleaned (pastConstruction s)).returned .none).interrupted m dr
  exact ⟨hclean.position_reads rfl, hclean.code_reads rfl⟩

end Sys2Proof.Safety
end

section
/-! The two encoding spaces (30_encoding.md R90, R91, R96): `encode` and `decode` agree in both directions, and what that
says about the words that name nothing. -/

namespace Sys2Proof.Safety

open Sys2Proof.Machine

/-- Settles O38: each row of the tables is read back as it was written; the operands beside a command word are the ones
`encode` put there. -/
theorem decodeOfEncode : Obligations.DecodeOfEncode := by
  intro i
  cases i <;> simp only [encode, decode] <;> rfl

/-- A command word is its select number and its argument (R91). -/
theorem word_eq_of_nibbles (w : Byte) : w = BitVec.ofNat 8 ((w >>> 4).toNat * 16 + (w &&& 0x0F#8).toNat) := by
  revert w
  decide

/-- No two command words name one operation: the decoder's rows fix both nibbles, and every other row rejects. -/
theorem encode_of_decodeCommand {w : Byte} {o : Operands} {i : Instr} (h : decodeCommand w o = .ok i) :
    ∃ q, encode i = .op q ∧ q.word = w := by
  have nibbles := word_eq_of_nibbles w
  unfold decodeCommand at h
  split at h
  case h_24 => split at h <;> cases h
  all_goals
    rename_i hsel harg
    cases h
  all_goals
    rw [hsel, harg] at nibbles
    exact ⟨_, rfl, nibbles.symm⟩

/-- Only the offsets 0 to 31 have a handler (R71). -/
theorem lt_of_decodeByte {off : Nat} {b : Byte} {i : Instr} (h : decodeByte off b = .ok i) : off < 32 := by
  by_contra hoff
  obtain ⟨n, rfl⟩ := Nat.exists_eq_add_of_le' (Nat.le_of_not_lt hoff)
  cases h

/-- The handler of an offset encodes back to that offset and byte. -/
theorem encode_of_decodeByte {off : Nat} {b : Byte} {i : Instr} (h : decodeByte off b = .ok i) :
    encode i = .frame off b := by
  obtain ⟨j, hj, he⟩ := decodeByte_of_lt (lt_of_decodeByte h) b
  cases hj.symm.trans h
  exact he

/-- Settles O39, one space at a time. -/
theorem encodeKeepsTheWord : Obligations.EncodeKeepsTheWord :=
  ⟨fun _ _ h => encode_of_decodeCommand h, fun _ _ _ h => encode_of_decodeByte h⟩

/-- The 21 command words of the table (R90). -/
def commandWords : List Byte :=
  [0x00#8, 0x10#8, 0x20#8, 0x30#8, 0x40#8, 0x50#8, 0x51#8, 0x52#8, 0x53#8, 0x54#8, 0x55#8, 0x56#8, 0x57#8,
    0x60#8, 0x70#8, 0x80#8, 0x81#8, 0x82#8, 0x83#8, 0x84#8, 0x90#8]

theorem encode_word_mem_commandWords {i : Instr} {q : Packet} (h : encode i = .op q) : q.word ∈ commandWords := by
  cases i <;> cases h <;> simp [commandWords]

theorem decodeCommand_of_mem_commandWords {w : Byte} (h : w ∈ commandWords) (o : Operands) :
    ∃ i, decodeCommand w o = .ok i := by
  simp only [commandWords, List.mem_cons, List.not_mem_nil, or_false] at h
  rcases h with rfl | rfl | rfl | rfl | rfl | rfl | rfl | rfl | rfl | rfl | rfl | rfl | rfl | rfl | rfl | rfl | rfl |
    rfl | rfl | rfl | rfl <;> exact ⟨_, rfl⟩

/-- Settles O40: a word that decodes is the word of an encoding, and those are the table's. -/
theorem otherWordsNameNothing : Obligations.OtherWordsNameNothing := by
  refine ⟨fun w o => ⟨?_, fun h => decodeCommand_of_mem_commandWords h o⟩, fun off b => ⟨?_, ?_⟩⟩
  · rintro ⟨i, hi⟩
    obtain ⟨q, hq, rfl⟩ := encode_of_decodeCommand hi
    exact encode_word_mem_commandWords hq
  · rintro ⟨i, hi⟩
    exact lt_of_decodeByte hi
  · intro hoff
    obtain ⟨i, hi, -⟩ := decodeByte_of_lt hoff b
    exact ⟨i, hi⟩

/-- Settles O41. -/
theorem writtenWordsDecode : Obligations.WrittenWordsDecode := ⟨rfl, rfl, rfl, rfl⟩

end Sys2Proof.Safety
end

section
/-! The invariant of the machine: it holds at reset, and every step keeps it. One lemma per kind of step; the hypotheses
of `MachineInv` that a step does not touch are taken over as they stand. -/

namespace Sys2Proof.Safety

open Sys2Proof.Machine

/-! ### What the invariant says at once -/

/-- While a `construct` may still come, the block is as at reset (log 8): here, idle. -/
theorem MachineInv.constructionDone_of_busy {s : State} (h : MachineInv s) (hp : s.phase ≠ .idle) :
    s.constructionDone = true := by
  by_contra hc
  exact hp (congrArg State.phase (h.construction_first (Bool.eq_false_iff.2 hc)))

/-- An enabled line comes from `begin`, so the construction is past. -/
theorem MachineInv.constructionDone_of_enabled {s : State} {l : Line} (h : MachineInv s)
    (hl : enabledIn s.lineEnabled l = true) : s.constructionDone = true := by
  by_contra hc
  have hreset : s.lineEnabled = 0#5 := congrArg State.lineEnabled (h.construction_first (Bool.eq_false_iff.2 hc))
  rw [hreset] at hl
  cases l <;> cases hl

/-- Only a decode has a frame buffer (log 21). -/
theorem MachineInv.buf_eq_nil {s : State} (h : MachineInv s) (hp : ∀ d, s.phase ≠ .decoding d) : s.buf = [] := by
  have hphase := h.phase_ok
  unfold PhaseOk at hphase
  split at hphase
  case h_5 d hd => exact absurd hd (hp d)
  all_goals simp_all

/-- Before `begin` no line is enabled, so none is pending (41_service.md R161). -/
theorem MachineInv.not_pending_of_not_ready {s : State} (h : MachineInv s) (hr : s.ready = false) (l : Line) :
    pendingIn s.mask l = false := by
  by_contra hl
  have hen := h.pending_enabled l (Bool.eq_true_of_not_eq_false hl)
  rw [h.enabled_as_assigned, hr, if_neg Bool.false_ne_true] at hen
  cases l <;> cases hen

/-- Where the construction is past, what holds before it is no matter. -/
theorem absurd_of_done {s : State} {p : Prop} (hc : s.constructionDone = true) (hf : s.constructionDone = false) : p :=
  absurd (hf.symm.trans hc) Bool.false_ne_true

/-- Settles O46. -/
theorem resetMeetsInv : Obligations.ResetMeetsInv where
  reserved_zero := rfl
  pending_enabled := fun l h => by cases l <;> cases h
  enabled_as_assigned := rfl
  position_whole := .inl rfl
  swipe_reachable := by decide
  generic_reachable := by decide
  tap_reachable := by decide
  buf_wf := Memory.nil_wf
  buf_le := by decide
  construction_first := fun _ => rfl
  phase_ok := rfl

/-! ### The inputs and the record of construction -/

/-- The invariant does not look at the turns or at the calls still to come. -/
theorem MachineInv.withInputs {s : State} (h : MachineInv s) (ts : List Turn) (ps : List Packet) :
    MachineInv { s with turns := ts, program := ps } :=
  { h with
    construction_first := fun hc =>
      congrArg (fun u : State => { u with turns := ts, program := ps }) (h.construction_first hc) }

theorem MachineInv.svcMoves {s s' : State} (h : MachineInv s) (hs : svcMoves s = some s') : MachineInv s' := by
  obtain ⟨ts, rfl⟩ := svcMoves_eq_some hs
  exact h.withInputs ts s.program

theorem MachineInv.pastConstruction {s : State} (h : MachineInv s) : MachineInv (pastConstruction s) :=
  { h with construction_first := absurd_of_done (pastConstruction_constructionDone s) }

/-- SVC goes on at another place, once what holds there is shown. -/
theorem MachineInv.goTo {s : State} {p : Phase} (h : MachineInv s) (hc : s.constructionDone = true)
    (hp : PhaseOk (goTo p s)) : MachineInv (goTo p s) :=
  { h with
    construction_first := absurd_of_done hc
    phase_ok := hp }

/-- An operation ends where there is no frame buffer. -/
theorem MachineInv.returns {s : State} {r : Result} (h : MachineInv s) (hc : s.constructionDone = true)
    (hb : s.buf = []) : MachineInv (returns r s) :=
  { h with
    construction_first := absurd_of_done hc
    phase_ok := hb }

/-! ### A callback -/

/-- Setting a line's bit touches none of bits 7 to 5 (R24). -/
theorem maskSet_reserved (m : BitVec 8) (l : Line) : maskSet m l &&& 0xE0#8 = m &&& 0xE0#8 := by
  revert m
  cases l <;> decide

/-- Nor does clearing one. -/
theorem maskClear_reserved (m : BitVec 8) (l : Line) : maskClear m l &&& 0xE0#8 = m &&& 0xE0#8 := by
  revert m
  cases l <;> decide

theorem pendingIn_maskSet_of_pendingIn {m : BitVec 8} (l : Line) {k : Line} (h : pendingIn m k = true) :
    pendingIn (maskSet m l) k = true := by
  rw [pendingIn_maskSet, h, Bool.true_or]

/-- What holds at each place SVC can stand survives the setting of a bit. -/
theorem PhaseOk.setPending {s : State} (h : PhaseOk s) (l : Line) : PhaseOk (setPending l s) := by
  cases hp : s.phase <;> simp only [PhaseOk, hp, setPending_phase, setPending_buf, setPending_mask] at h ⊢
  case testing k f =>
    obtain ⟨hbuf, l', hle, hl'⟩ := h
    exact ⟨hbuf, l', hle, pendingIn_maskSet_of_pendingIn l hl'⟩
  case selected k f => exact ⟨h.1, pendingIn_maskSet_of_pendingIn l h.2⟩
  all_goals exact h

theorem MachineInv.setPending {s : State} {l : Line} (h : MachineInv s) (hl : enabledIn s.lineEnabled l = true) :
    MachineInv (setPending l s) :=
  { h with
    reserved_zero := (maskSet_reserved s.mask l).trans h.reserved_zero
    pending_enabled := fun k hk => by
      rw [setPending_mask, pendingIn_maskSet, Bool.or_eq_true, decide_eq_true_iff] at hk
      rcases hk with hk | rfl
      · exact h.pending_enabled k hk
      · exact hl
    construction_first := absurd_of_done (h.constructionDone_of_enabled hl)
    phase_ok := h.phase_ok.setPending l }

theorem MachineInv.setDrLine {s : State} (h : MachineInv s) (hc : s.constructionDone = true) (m : DrLineMode) :
    MachineInv (setDrLine m s) :=
  { h with construction_first := absurd_of_done hc }

/-! ### A call -/

theorem MachineInv.constructed (dr rst : PinId) (addr : BusAddress) (s : State) :
    MachineInv (constructed dr rst addr s) :=
  { resetMeetsInv with construction_first := absurd_of_done (constructed_constructionDone dr rst addr s) }

/-- Before `begin` no line is enabled, whatever the pins are (R34). -/
theorem MachineInv.setPin {s : State} (h : MachineInv s) (hc : s.constructionDone = true) (hr : s.ready = false)
    (pins : Vector (Option PinId) 4) : MachineInv { s with gestureIrqPins := pins } :=
  { h with
    enabled_as_assigned := by simpa [hr] using h.enabled_as_assigned
    construction_first := absurd_of_done hc }

/-- `begin` starts from no enable, so its enables are those R243 names. -/
theorem MachineInv.begun {s : State} (h : MachineInv s) (hc : s.constructionDone = true) (hr : s.ready = false) :
    MachineInv (begun s) :=
  { h with
    pending_enabled := fun l hl => absurd (h.not_pending_of_not_ready hr l) (by simpa using hl)
    enabled_as_assigned := by
      have hnone : s.lineEnabled = 0#5 := by simpa [hr] using h.enabled_as_assigned
      rw [begun_lineEnabled, hnone]
      rfl
    construction_first := absurd_of_done hc }

theorem MachineInv.cleaned {s : State} (h : MachineInv s) (hc : s.constructionDone = true) : MachineInv (cleaned s) :=
  { h with
    position_whole := .inl rfl
    swipe_reachable := by simp [swipeCodes]
    generic_reachable := by simp [swipeCodes]
    tap_reachable := by simp [tapCodes]
    construction_first := absurd_of_done hc }

/-- A call of an operation of agent SVC keeps the invariant. -/
theorem MachineInv.call {i : Instr} {s t : State} (h : MachineInv s) (hp : s.phase = .idle) (he : CallEffect i s t) :
    MachineInv t := by
  have hbuf : s.buf = [] := h.buf_eq_nil (by simp [hp])
  have hpast := h.pastConstruction
  cases he with
  | construct dr rst addr => exact .constructed dr rst addr s
  | badIndex | nothing | read => exact hpast.returns rfl hbuf
  | setPin _ pin k _ _ hr => exact (hpast.setPin rfl hr _).returns rfl hbuf
  | begin _ hr => exact (hpast.begun rfl hr).returns rfl hbuf
  | clean => exact (hpast.cleaned rfl).returns rfl hbuf
  | select f l _ hl => exact hpast.goTo rfl ⟨hbuf, hl⟩
  | chain f _ hl =>
    obtain ⟨l, hl⟩ := hl
    exact hpast.goTo rfl ⟨hbuf, l, Nat.zero_le _, hl⟩

/-! ### The steps of `service` -/

/-- The line tested next has the next number (R281). -/
theorem lineBit_of_nextLine {l k : Line} (h : nextLine l = some k) : lineBit k = lineBit l + 1 := by
  cases l <;> cases h <;> rfl

theorem nextLine_of_lineBit {l k : Line} (h : lineBit k = lineBit l + 1) : nextLine l = some k := by
  revert h
  cases l <;> cases k <;> decide

theorem lineBit_injective {l k : Line} (h : lineBit l = lineBit k) : l = k := by
  revert h
  cases l <;> cases k <;> decide

theorem lineBit_le_four (l : Line) : lineBit l ≤ 4 := by
  cases l <;> decide

theorem exists_nextLine {l k : Line} (h : lineBit l < lineBit k) : ∃ l', nextLine l = some l' := by
  cases l
  case gesture3 => exact absurd (lineBit_le_four k) (Nat.not_le_of_lt h)
  all_goals exact ⟨_, rfl⟩

theorem serviceTest_of_pending {s : State} {l : Line} (f : Frame) (hl : pendingIn s.mask l = true) :
    serviceTest l f s = goTo (.selected l f) s := by
  rw [serviceTest, readMask, pendingIn_readableMask, if_pos hl]

/-- A test that fails goes on to the next line. -/
theorem serviceTest_next {s : State} {l k : Line} (f : Frame) (hl : pendingIn s.mask l = false)
    (hk : nextLine l = some k) : serviceTest l f s = goTo (.testing k f) s := by
  simp only [serviceTest, readMask, pendingIn_readableMask, hl, Bool.false_eq_true, if_false, hk]

/-- After the last line the call ends with 0. -/
theorem serviceTest_last {s : State} {l : Line} (f : Frame) (hl : pendingIn s.mask l = false)
    (hk : nextLine l = none) : serviceTest l f s = returns (.value 0) s := by
  simp only [serviceTest, readMask, pendingIn_readableMask, hl, Bool.false_eq_true, if_false, hk]

/-- SELECT = chained: some line is pending at or after the one tested, so the tests do not run out. -/
theorem MachineInv.serviceTest {s : State} {l : Line} {f : Frame} (h : MachineInv s) (hp : s.phase = .testing l f) :
    MachineInv (serviceTest l f s) := by
  have hdone := h.constructionDone_of_busy (by simp [hp])
  have hphase := h.phase_ok
  simp only [PhaseOk, hp] at hphase
  obtain ⟨hbuf, l', hle, hl'⟩ := hphase
  cases hl : pendingIn s.mask l with
  | true =>
    rw [serviceTest_of_pending f hl]
    exact h.goTo hdone ⟨hbuf, hl⟩
  | false =>
    have hne : lineBit l ≠ lineBit l' := fun heq =>
      Bool.false_ne_true (hl.symm.trans (lineBit_injective heq ▸ hl'))
    obtain ⟨k, hk⟩ := exists_nextLine (Nat.lt_of_le_of_ne hle hne)
    have hbit := lineBit_of_nextLine hk
    rw [serviceTest_next f hl hk]
    exact h.goTo hdone ⟨hbuf, l', by omega, hl'⟩

/-- The clear of a bit, and SVC at a place that asks for no pending bit. -/
theorem MachineInv.clearPending {s : State} (h : MachineInv s) (hc : s.constructionDone = true) (l : Line) (p : Phase)
    (r : Result) (hp : PhaseOk { clearPending l s with phase := p, result := r }) :
    MachineInv { clearPending l s with phase := p, result := r } :=
  { h with
    reserved_zero := (maskClear_reserved s.mask l).trans h.reserved_zero
    pending_enabled := fun k hk => by
      have hk : (pendingIn s.mask k && decide (k ≠ l)) = true := (pendingIn_maskClear s.mask l k).symm.trans hk
      exact h.pending_enabled k (Bool.and_eq_true_iff.1 hk).1
    construction_first := absurd_of_done hc
    phase_ok := hp }

theorem MachineInv.serviceClear {s : State} {l : Line} {f : Frame} (h : MachineInv s) (hp : s.phase = .selected l f) :
    MachineInv (serviceClear l f s) := by
  have hbuf : s.buf = [] := h.buf_eq_nil (by simp [hp])
  have hdone := h.constructionDone_of_busy (by simp [hp])
  cases l with
  | dataReady => exact h.clearPending hdone .dataReady (.calling f) s.result hbuf
  | gesture0 | gesture1 | gesture2 | gesture3 => exact h.clearPending hdone _ .idle (.value 1) hbuf

theorem MachineInv.serviceRearm {s : State} {events : Nat} (h : MachineInv s) (hp : s.phase = .rearm events) :
    MachineInv (serviceRearm events s) := by
  have hdone := h.constructionDone_of_busy (by simp [hp])
  exact (h.setDrLine hdone .sense).returns hdone (h.buf_eq_nil (by simp [hp]))

/-! ### The decode -/

/-- A byte of a canonical buffer lies below its length (R60). -/
theorem Memory.lt_length_of_read {m : Memory} {k : Nat} {b : Byte} (h : Memory.wf m) (hr : Memory.read m k = some b) :
    k < m.length := by
  have hlookup : m.lookup k = some b := by
    unfold Memory.read at hr
    split at hr
    · next hl => rw [hl, hr]
    · cases hr
  obtain ⟨l₁, l₂, hm, -⟩ := List.lookup_eq_some_iff.1 hlookup
  have hmem : k ∈ m.map Prod.fst := by simp [hm]
  rwa [h, List.mem_range] at hmem

theorem le_declareLength (r : LenReading) (e : Nat) (b : Byte) : e ≤ declareLength r e b := by
  unfold declareLength
  split
  · cases r <;> simp only <;> omega
  · exact le_rfl

theorem declareLength_le {e : Nat} (h : e ≤ 255) (r : LenReading) (b : Byte) : declareLength r e b ≤ 255 := by
  have hb := b.isLt
  unfold declareLength
  split
  · cases r <;> simp only <;> omega
  · exact h

section ByteEffectFrame

variable {d d' : Decode} {b : Byte} {s t : State}

theorem ByteEffect.mask_eq (he : ByteEffect d b s t d') : t.mask = s.mask := (congrArg State.mask he.frame :)

theorem ByteEffect.lineEnabled_eq (he : ByteEffect d b s t d') : t.lineEnabled = s.lineEnabled :=
  (congrArg State.lineEnabled he.frame :)

theorem ByteEffect.ready_eq (he : ByteEffect d b s t d') : t.ready = s.ready := (congrArg State.ready he.frame :)

theorem ByteEffect.gestureIrqPins_eq (he : ByteEffect d b s t d') : t.gestureIrqPins = s.gestureIrqPins :=
  (congrArg State.gestureIrqPins he.frame :)

theorem ByteEffect.buf_eq (he : ByteEffect d b s t d') : t.buf = s.buf := (congrArg State.buf he.frame :)

theorem ByteEffect.constructionDone_eq (he : ByteEffect d b s t d') : t.constructionDone = s.constructionDone :=
  (congrArg State.constructionDone he.frame :)

theorem ByteEffect.phase_eq (he : ByteEffect d b s t d') : t.phase = .decoding d' :=
  (congrArg State.phase he.frame :)

end ByteEffectFrame

theorem ByteEffect.expected_ge {d d' : Decode} {b : Byte} {s t : State} (he : ByteEffect d b s t d') :
    d.expected ≤ d'.expected := by
  rw [he.expected]
  split
  · exact le_declareLength _ _ _
  · exact le_rfl

theorem ByteEffect.expected_le {d d' : Decode} {b : Byte} {s t : State} (he : ByteEffect d b s t d')
    (h : d.expected ≤ 255) : d'.expected ≤ 255 := by
  rw [he.expected]
  split
  · exact declareLength_le h _ _
  · exact h

/-- A handler that counts stands at one of the four slots. -/
theorem ByteEffect.events_le {d d' : Decode} {b : Byte} {s t : State} (he : ByteEffect d b s t d')
    (h : d.events ≤ eventSlots d.off) : d'.events ≤ eventSlots d'.off := by
  rw [he.events, he.off]
  unfold eventSlots at h ⊢
  split <;> split_ifs at h ⊢ <;> omega

theorem Decode.Ok.byte {d d' : Decode} {b : Byte} {s t : State} (h : Decode.Ok d) (hlt : d.off < d.expected)
    (h32 : d.off < maxRequest) (he : ByteEffect d b s t d') : Decode.Ok d' where
  off_le := he.off ▸ h32
  off_le_expected := he.off ▸ Nat.lt_of_lt_of_le hlt he.expected_ge
  expected_pos := Nat.le_trans h.expected_pos he.expected_ge
  expected_le := he.expected_le h.expected_le
  events_le := he.events_le h.events_le
  flags_unset := fun h7 => by
    rw [he.off] at h7
    obtain ⟨hpv, hav⟩ := h.flags_unset (by omega)
    rw [he.pv, he.av, if_neg (by omega), if_neg (by omega)]
    exact ⟨hpv, hav⟩

/-- The codes that offsets 1 and 10 write are the reachable ones (R28, R30). -/
theorem swipeCode_mem {b : Byte} (h : codeFires b = true) : swipeCode b ∈ swipeCodes := by
  revert b
  decide

theorem tapCode_mem {b : Byte} (h : tapFires b = true) : tapCode b ∈ tapCodes := by
  revert b
  decide

theorem tapCodeCont_mem {b : Byte} (h : tapContFires b = true) : tapCodeCont b ∈ tapCodes := by
  revert b
  decide

/-- An axis is a 16-bit value (R196). -/
theorem axis_toNat_lt (v : BitVec 16) : (axis v).toNat < 65536 := by
  have := v.isLt
  simp only [axis, BitVec.toNat_setWidth]
  omega

theorem committed_whole (tx ty tz : BitVec 16) : Position.whole (committed tx ty tz) :=
  .inr ⟨axis_toNat_lt tx, axis_toNat_lt ty, axis_toNat_lt tz⟩

theorem MachineInv.byte {s t : State} {d d' : Decode} {b : Byte} (h : MachineInv s) (hp : s.phase = .decoding d)
    (hb : nextByte d s = some b) (he : ByteEffect d b s t d') : MachineInv t := by
  obtain ⟨hlt, h32, hread⟩ := nextByte_eq_some.1 hb
  have hok := h.phase_ok
  simp only [PhaseOk, hp] at hok
  constructor
  case reserved_zero => rw [he.mask_eq, h.reserved_zero]
  case pending_enabled => rw [he.mask_eq, he.lineEnabled_eq]; exact h.pending_enabled
  case enabled_as_assigned => rw [he.lineEnabled_eq, he.ready_eq, he.gestureIrqPins_eq]; exact h.enabled_as_assigned
  case position_whole =>
    rw [he.position]
    split
    · exact committed_whole _ _ _
    · exact h.position_whole
  case swipe_reachable =>
    rw [he.swipe]
    split
    · next hf => exact swipeCode_mem hf.2
    · exact h.swipe_reachable
  case generic_reachable =>
    rw [he.generic]
    split
    · next hf => exact swipeCode_mem hf.2
    · exact h.generic_reachable
  case tap_reachable =>
    rw [he.tap]
    split
    · next hf => exact tapCode_mem hf.2
    · split
      · next hf => exact tapCodeCont_mem hf.2
      · exact h.tap_reachable
  case buf_wf => rw [he.buf_eq]; exact h.buf_wf
  case buf_le => rw [he.buf_eq]; exact h.buf_le
  case construction_first =>
    exact absurd_of_done (he.constructionDone_eq.trans (h.constructionDone_of_busy (by simp [hp])))
  case phase_ok =>
    simp only [PhaseOk, he.phase_eq, he.buf_eq]
    exact ⟨hok.1.byte hlt h32 he, he.off ▸ Memory.lt_length_of_read h.buf_wf hread⟩

/-- A decode starts in range, on a buffer of at most 32 bytes (R64, R174). -/
theorem MachineInv.beginDecode {s : State} {g : Frame} (h : MachineInv s) (hp : s.phase = .calling g) (f : Frame) :
    MachineInv (beginDecode f s) :=
  { h with
    buf_wf := transfer_wf maxRequest f
    buf_le := by
      show (transfer maxRequest f).length ≤ maxRequest
      rw [transfer_length]
      exact min_le_left _ _
    construction_first := absurd_of_done (h.constructionDone_of_busy (by simp [hp]))
    phase_ok := by
      have hlt := s.params.initExpectedPred.isLt
      refine ⟨⟨Nat.zero_le _, Nat.zero_le _, Nat.succ_pos _, ?_, Nat.zero_le _, fun _ => ⟨rfl, rfl⟩⟩, Nat.zero_le _⟩
      show s.params.initExpectedPred.val + 1 ≤ 255
      omega }

theorem eventSlots_le_four (off : Nat) : eventSlots off ≤ 4 := by
  unfold eventSlots
  split_ifs <;> omega

theorem MachineInv.finishDecode {s : State} {d : Decode} (h : MachineInv s) (hp : s.phase = .decoding d) :
    MachineInv (finishDecode d s) :=
  { h with
    buf_wf := Memory.nil_wf
    buf_le := Nat.zero_le _
    construction_first := absurd_of_done (h.constructionDone_of_busy (by simp [hp]))
    phase_ok := by
      have hok := h.phase_ok
      simp only [PhaseOk, hp] at hok
      exact ⟨rfl, hok.1.events_le.trans (eventSlots_le_four _)⟩ }

/-! ### Every step -/

/-- Settles O47: by what a step can do (`step_move`), one lemma above for each kind. -/
theorem stepKeepsInv : Obligations.StepKeepsInv := by
  intro s t h hstep
  cases step_move hstep with
  | noEdge w ts => exact h.withInputs ts s.program
  | edge l ts _ hf =>
    have hl := lineFires_enabled hf
    have hset := (h.withInputs ts s.program).setPending (l := l) hl
    split
    · exact hset.setDrLine (h.constructionDone_of_enabled hl) .holdLow
    · exact hset
  | wait s' hs => exact h.svcMoves hs
  | call s' t p ps i hs hp _ _ _ he =>
    exact ((h.svcMoves hs).withInputs s'.turns ps).call ((svcMoves_phase hs).trans hp) he
  | test s' l f hs hp => exact (h.svcMoves hs).serviceTest ((svcMoves_phase hs).trans hp)
  | clear s' l f hs hp => exact (h.svcMoves hs).serviceClear ((svcMoves_phase hs).trans hp)
  | start s' f hs hp => exact (h.svcMoves hs).beginDecode ((svcMoves_phase hs).trans hp) f
  | byte s' t d d' b hs hp hb he => exact (h.svcMoves hs).byte ((svcMoves_phase hs).trans hp) hb he
  | finish s' d hs hp => exact (h.svcMoves hs).finishDecode ((svcMoves_phase hs).trans hp)
  | rearm s' events hs hp => exact (h.svcMoves hs).serviceRearm ((svcMoves_phase hs).trans hp)

end Sys2Proof.Safety
end

section
/-! The operations of the caller that end in one step (43_state_ops.md): each obligation is the operation's equation where
SVC is idle. -/

namespace Sys2Proof.Safety

open Sys2Proof.Machine

/-! ### Construction -/

theorem exec_construct_of_idle {s : State} (hp : s.phase = .idle) (dr rst : PinId) (addr : BusAddress) :
    exec (.construct dr rst addr) s =
      if s.constructionDone then .refused .secondConstruct else .next (constructed dr rst addr s) := by
  rw [exec, execConstruct, svcOp_of_idle hp]
  rfl

/-- Settles O1: the one `construct`, run at reset. -/
theorem constructionGivesTheResetTable : Obligations.ConstructionGivesTheResetTable := by
  intro dr rst addr
  refine ⟨constructed dr rst addr State.reset, exec_construct_of_idle rfl dr rst addr, ?_⟩
  exact ⟨rfl, rfl, rfl, rfl, rfl, rfl, rfl, rfl, rfl, rfl, rfl, rfl, rfl, rfl, rfl, rfl, rfl, rfl⟩

/-- After any call of an operation of agent SVC the one construction is past (log 8). -/
theorem CallEffect.constructionDone {i : Instr} {s t : State} (h : CallEffect i s t) : t.constructionDone = true := by
  cases h <;> rfl

/-- Settles O2: the record `constructionDone` decides the outcome of `construct`, and every call sets it. -/
theorem constructIsTheReset : Obligations.ConstructIsTheReset := by
  intro s dr rst addr hp
  refine ⟨fun hc => ?_, fun hc => ?_, fun i t ha hi => (call_effect ha hp hi).constructionDone⟩
  · rw [exec_construct_of_idle hp, hc]
    rfl
  · rw [exec_construct_of_idle hp, hc, if_pos rfl]

/-! ### `setGestureIrqPin` -/

/-- The indices 0 to 3 name their entries (R240). -/
theorem gestureIndex_val (k : Fin 4) : gestureIndex k.val = some k := by
  fin_cases k <;> rfl

/-- Every other index names none. -/
theorem gestureIndex_eq_none {i : Int} (h : i < 0 ∨ 3 < i) : gestureIndex i = none := by
  unfold gestureIndex
  rw [if_neg (by omega), if_neg (by omega), if_neg (by omega), if_neg (by omega)]

theorem exec_setGestureIrqPin_of_valid {s : State} (hp : s.phase = .idle) (k : Fin 4) (pin : PinId) :
    exec (.setGestureIrqPin k.val pin) s =
      if s.ready then .refused .gesturePinAfterBegin
      else .next { s with
        gestureIrqPins := s.gestureIrqPins.set k.val (some pin), result := .value 0, constructionDone := true } := by
  rw [exec, execSetGestureIrqPin, svcOp_of_idle hp]
  simp only [gestureIndex_val, returns, pastConstruction, hp]

/-- Settles O3: a valid index writes its entry, any other is ConfigError. -/
theorem setGestureIrqPinWritesOneEntryOrFails : Obligations.SetGestureIrqPinWritesOneEntryOrFails := by
  intro s lineIndex pin hp
  refine ⟨?_, fun hbad => ?_⟩
  · rintro k rfl hr
    rw [exec_setGestureIrqPin_of_valid hp, hr, if_neg Bool.false_ne_true]
  · rw [exec, execSetGestureIrqPin, svcOp_of_idle hp]
    simp only [gestureIndex_eq_none hbad, raiseConfigError, returns, errResult, pastConstruction, hp]

/-! ### `begin` -/

theorem exec_begin_of_idle {s : State} (hp : s.phase = .idle) :
    exec .beginOp s =
      if s.ready then .refused .secondBegin else .next (returns .none (begun (pastConstruction s))) := by
  rw [exec, execBegin, svcOp_of_idle hp]
  rfl

theorem gestureLine_injective {j k : Fin 4} (h : gestureLine j = gestureLine k) : j = k := by
  revert h
  fin_cases j <;> fin_cases k <;> decide

/-- Enabling a list of gesture lines where their pins are assigned: a line is enabled exactly if it was, or is one of
them. -/
theorem enabledIn_foldl_enable (pins : Vector (Option PinId) 4) (ks : List (Fin 4)) (e : BitVec 5) (l : Line) :
    enabledIn (ks.foldl (fun e k => if pins[k.val].isSome then enable e (gestureLine k) else e) e) l = true ↔
      enabledIn e l = true ∨ ∃ k ∈ ks, l = gestureLine k ∧ pins[k.val].isSome = true := by
  induction ks generalizing e with
  | nil => simp
  | cons j ks ih =>
    rw [List.foldl_cons, ih]
    split
    · next hj =>
      simp only [enabledIn_enable, Bool.or_eq_true, decide_eq_true_iff, List.exists_mem_cons_iff, hj, and_true, or_assoc]
    · next hj => simp only [List.exists_mem_cons_iff, hj, Bool.false_eq_true, and_false, false_or]

/-- `begin` enables line 0 (R243). -/
theorem enabledIn_enableAssigned_dataReady (pins : Vector (Option PinId) 4) (e : BitVec 5) :
    enabledIn (enableAssigned pins e) .dataReady = true := by
  rw [enableAssigned, enabledIn_foldl_enable, enabledIn_enable]
  simp

/-- `begin` enables a gesture line exactly if its pin is assigned (R243). -/
theorem enabledIn_enableAssigned_gestureLine (pins : Vector (Option PinId) 4) (e : BitVec 5) (k : Fin 4) :
    enabledIn (enableAssigned pins e) (gestureLine k) = (enabledIn e (gestureLine k) || pins[k.val].isSome) := by
  have hmem : ∀ j : Fin 4, j ∈ ([0, 1, 2, 3] : List (Fin 4)) := by decide
  rw [Bool.eq_iff_iff, enableAssigned, enabledIn_foldl_enable, enabledIn_enable, Bool.or_eq_true, Bool.or_eq_true,
    decide_eq_true_iff, or_iff_left (gestureLine_ne_dataReady k)]
  refine or_congr_right ⟨?_, fun hpin => ⟨k, hmem k, rfl, hpin⟩⟩
  rintro ⟨j, -, hjk, hpin⟩
  rwa [gestureLine_injective hjk]

/-- `begin` registers the callback of each gesture line with a pin (R243). -/
theorem registerEdgeCallback_mem_callbacks {s : State} {k : Fin 4} {p : PinId} (h : s.gestureIrqPins[k.val] = some p) :
    ExternalCall.registerEdgeCallback p (gestureLine k) ∈ callbacks s := by
  have hmem : ∀ j : Fin 4, j ∈ ([0, 1, 2, 3] : List (Fin 4)) := by decide
  refine List.mem_cons_of_mem _ (List.mem_filterMap.2 ⟨k, hmem k, ?_⟩)
  rw [h, Option.map_some]

/-- Settles O4: the enables are those of `enableAssigned`, the outside calls the callbacks and the reset pulse. -/
theorem beginEnablesTheAssignedLines : Obligations.BeginEnablesTheAssignedLines := by
  intro s hp hr
  refine ⟨_, by rw [exec_begin_of_idle hp, hr, if_neg Bool.false_ne_true], ?frame, ?line0, ?gesture, ?grows, ?cb0, ?cbs,
    ?pulse⟩
  case frame => rw [returns_of_idle (by exact hp)]; rfl
  case line0 => exact enabledIn_enableAssigned_dataReady _ _
  case gesture => exact enabledIn_enableAssigned_gestureLine _ _
  case grows => exact ⟨_, List.append_assoc _ _ _⟩
  case cb0 => simp [callbacks]
  case cbs =>
    intro k p hk
    have hcb := registerEdgeCallback_mem_callbacks (s := pastConstruction s) hk
    simp [hcb]
  case pulse => simp

/-- Settles O5. -/
theorem lifecycleMisuseIsRefused : Obligations.LifecycleMisuseIsRefused := by
  intro s hp hr
  refine ⟨fun k pin => ?_, ?_⟩
  · rw [exec_setGestureIrqPin_of_valid hp, hr, if_pos rfl]
  · rw [exec_begin_of_idle hp, hr, if_pos rfl]

/-! ### `markClean` and the reads -/

/-- Settles O6: `cleaned` writes constants only, so a second one writes the same. -/
theorem markCleanResetsFiveRegisters : Obligations.MarkCleanResetsFiveRegisters := by
  intro s hp
  refine ⟨_, exec_markClean_of_idle hp, exec_markClean_of_idle rfl, ?_⟩
  rw [returns_of_idle (by exact hp)]
  rfl

/-- Where SVC is idle, an operation that only answers a value sets the result, and the construction is past. -/
theorem answer_of_idle {s : State} (hp : s.phase = .idle) (r : State → Result) :
    answer r s = .next { s with result := r (pastConstruction s), constructionDone := true } := by
  rw [answer_eq_next.2 ⟨hp, rfl⟩, returns_of_idle (by exact hp)]
  rfl

/-- Settles O8: each accessor is `answer` of its register. -/
theorem accessorsReadTheirRegister : Obligations.AccessorsReadTheirRegister := fun _ hp =>
  ⟨answer_of_idle hp fun s => .value s.lastPosition.x.toInt,
    answer_of_idle hp fun s => .value s.lastPosition.y.toInt,
    answer_of_idle hp fun s => .value s.lastPosition.z.toInt,
    answer_of_idle hp fun s => .value s.lastSwipeCode.toNat,
    answer_of_idle hp fun s => .value s.lastTapCode.toNat,
    answer_of_idle hp fun s => .value s.lastGenericEventCode.toNat,
    answer_of_idle hp fun s => .value s.airWheelAccumulator.toInt,
    answer_of_idle hp fun s => .value s.frameCount.toNat⟩

/-- An axis of at most 16 bits reads as a number from 0 to 65535 (R231). -/
theorem toInt_mem_of_toNat_lt {v : BitVec 32} (h : v.toNat < 65536) : 0 ≤ v.toInt ∧ v.toInt ≤ 65535 := by
  rw [BitVec.toInt_eq_toNat_of_lt (by omega)]
  omega

/-- Settles O9: the reads are those of O8, and the invariant's position is whole (R27). -/
theorem positionReadsAreWhole : Obligations.PositionReadsAreWhole := by
  intro s hp hinv
  obtain ⟨hx, hy, hz, -⟩ := accessorsReadTheirRegister s hp
  refine ⟨_, _, _, hx, hy, hz, ?_⟩
  rcases hinv.position_whole with hinvalid | ⟨hx, hy, hz⟩
  · left
    rw [hinvalid]
    exact ⟨rfl, rfl, rfl⟩
  · obtain ⟨hx0, hx1⟩ := toInt_mem_of_toNat_lt hx
    obtain ⟨hy0, hy1⟩ := toInt_mem_of_toNat_lt hy
    obtain ⟨hz0, hz1⟩ := toInt_mem_of_toNat_lt hz
    exact .inr ⟨hx0, hx1, hy0, hy1, hz0, hz1⟩

/-- A code with no row of the table has the empty label (R237). -/
theorem labelOf_of_notMem {code : Byte} (h : code ∉ labelTable.map Prod.fst) : labelOf code = .empty := by
  have hnone : labelTable.lookup code = none := by
    rw [List.lookup_eq_none_iff]
    intro p hp
    rw [bne_iff_ne]
    rintro rfl
    exact h (List.mem_map_of_mem hp)
  rw [labelOf, hnone, Option.getD_none]

/-- Settles O10: the label of a row by `labelOf`, of every other byte by `labelOf_of_notMem`. -/
theorem eventCodeToLabelIsExactEquality : Obligations.EventCodeToLabelIsExactEquality := by
  intro s code hp
  refine ⟨labelOf code, answer_of_idle hp fun _ => .label (labelOf code), ?_⟩
  refine ⟨?_, ?_, ?_, ?_, ?_, ?_, ?_, ?_, ?_, fun h => labelOf_of_notMem h, rfl, rfl, rfl⟩
  all_goals
    rintro rfl
    rfl

/-- Settles O11. -/
theorem dumpReportsSixValues : Obligations.DumpReportsSixValues := fun _ hp =>
  answer_of_idle hp fun s => .dump (dumpContent s)

end Sys2Proof.Safety
end

section
/-! What each kind of step runs: a callback's edge, the caller's next call, the next frame byte, and the steps of
`service` between them. The equations of this part are those of `Machine.step`; later proofs about runs cite them. -/

namespace Sys2Proof.Safety

open Sys2Proof.Machine

/-! ### A callback's edge -/

/-- What a firing of a line does (R130, R131): its bit, and for line 0 the acknowledgement. -/
def fired (l : Line) (s : State) : State :=
  if l = .dataReady then setDrLine .holdLow (setPending l s) else setPending l s

/-- `Move.edge` writes a firing out. -/
theorem ite_eq_fired (l : Line) (s : State) :
    (if l = .dataReady then setDrLine .holdLow (setPending l s) else setPending l s) = fired l s := rfl

theorem exec_callbackInstr_of_enabled {s : State} {l : Line} (h : enabledIn s.lineEnabled l = true) :
    exec (callbackInstr l) s = .next (fired l s) := exec_callbackInstr h

theorem fired_of_ne_dataReady {l : Line} (h : l ≠ .dataReady) (s : State) : fired l s = setPending l s := if_neg h

theorem fired_dataReady (s : State) : fired .dataReady s = setDrLine .holdLow (setPending .dataReady s) := rfl

/-- A firing writes `mask` and `drLineMode` and nothing else (R134). -/
theorem fired_frame (l : Line) (s : State) :
    fired l s = { s with mask := maskSet s.mask l, drLineMode := (fired l s).drLineMode } := by
  by_cases h : l = .dataReady
  · subst h
    rfl
  · rw [fired_of_ne_dataReady h]
    rfl

@[simp] theorem fired_mask (l : Line) (s : State) : (fired l s).mask = maskSet s.mask l :=
  (congrArg State.mask (fired_frame l s) :)

@[simp] theorem fired_lineEnabled (l : Line) (s : State) : (fired l s).lineEnabled = s.lineEnabled :=
  (congrArg State.lineEnabled (fired_frame l s) :)

@[simp] theorem fired_phase (l : Line) (s : State) : (fired l s).phase = s.phase :=
  (congrArg State.phase (fired_frame l s) :)

@[simp] theorem fired_turns (l : Line) (s : State) : (fired l s).turns = s.turns :=
  (congrArg State.turns (fired_frame l s) :)

theorem fetchIrq_callbackWord (l : Line) (s : State) :
    fetchIrq (callbackWord l) s = if lineFires s l then .run (callbackInstr l) s else .moved s := by
  simp only [fetchIrq, decode_callbackWord, callbackInstr_agent]

/-- An edge whose callback runs. -/
theorem step_edge_fires {s : State} {l : Line} {ts : List Turn} (ht : s.turns = .irq (callbackWord l) :: ts)
    (hf : lineFires s l = true) : step s = exec (callbackInstr l) { s with turns := ts } := by
  have hf' : lineFires { s with turns := ts } l = true := hf
  exact step_of_run (by rw [fetch_of_irq ht, fetchIrq_callbackWord, if_pos hf'])

/-- An edge whose callback does not run (log 6). -/
theorem step_edge_silent {s : State} {l : Line} {ts : List Turn} (ht : s.turns = .irq (callbackWord l) :: ts)
    (hf : lineFires s l = false) : step s = .next { s with turns := ts } := by
  have hf' : lineFires { s with turns := ts } l = false := hf
  exact step_of_moved (by rw [fetch_of_irq ht, fetchIrq_callbackWord, if_neg (Bool.eq_false_iff.1 hf')])

theorem lineFires_iff {s : State} {l : Line} :
    lineFires s l = true ↔ enabledIn s.lineEnabled l = true ∧
      (s.params.envNoDrWhileLow = false ∨ l ≠ .dataReady ∨ s.drLineMode ≠ .holdLow) := by
  simp only [lineFires, Bool.and_eq_true, Bool.not_eq_true', Bool.and_eq_false_iff, beq_eq_false_iff_ne, or_assoc]

/-- An edge of a line that fires sets its bit. -/
theorem step_edge_fired {s : State} {l : Line} {ts : List Turn} (ht : s.turns = .irq (callbackWord l) :: ts)
    (hf : lineFires s l = true) : step s = .next (fired l { s with turns := ts }) := by
  have hen : enabledIn { s with turns := ts }.lineEnabled l = true := lineFires_enabled hf
  rw [step_edge_fires ht hf, exec_callbackInstr_of_enabled hen]

/-- Settles O43: the three clauses are the two outcomes of `lineFires`. -/
theorem edgeRunsItsCallback : Obligations.EdgeRunsItsCallback := by
  intro s l ts ht
  refine ⟨fun hen hor => step_edge_fires ht (lineFires_iff.2 ⟨hen, ?_⟩), fun hen => step_edge_silent ht ?_,
    fun henv hl hlow => step_edge_silent ht ?_⟩
  · refine hor.imp_right (Or.imp_right fun hsense => ?_)
    rw [hsense]
    exact DrLineMode.noConfusion
  · rw [lineFires, hen, Bool.false_and]
  · rw [Bool.eq_false_iff, ne_eq, lineFires_iff]
    rintro ⟨-, h | h | h⟩
    · exact Bool.false_ne_true (h.symm.trans henv)
    · exact h hl
    · exact h hlow

/-! ### The steps of agent SVC -/

/-- A step of agent SVC is the one fetched where it stands. -/
theorem step_of_fetchSvc_run {s s' u : State} {i : Instr} (hs : svcMoves s = some s') (h : fetchSvc s' = .run i u) :
    step s = exec i u := step_of_run ((fetch_of_svcMoves hs).trans h)

theorem step_of_fetchSvc_moved {s s' u : State} (hs : svcMoves s = some s') (h : fetchSvc s' = .moved u) :
    step s = .next u := step_of_moved ((fetch_of_svcMoves hs).trans h)

theorem step_of_stopped {s : State} {r : Refusal} (h : fetch s = .stopped r) : step s = .refused r := by
  rw [step, h]

/-- The caller's next call. -/
theorem fetchSvc_of_call {s s' : State} {p : Packet} {ps : List Packet} (hs : svcMoves s = some s')
    (hp : s.phase = .idle) (he : s.program = p :: ps) : fetchSvc s' = fetchCall s' ∧ s'.program = p :: ps :=
  ⟨fetchSvc_of_idle ((svcMoves_phase hs).trans hp), (svcMoves_program hs).trans he⟩

theorem step_call {s s' : State} {p : Packet} {ps : List Packet} {i : Instr} (hs : svcMoves s = some s')
    (hp : s.phase = .idle) (he : s.program = p :: ps) (hd : decode (.op p) = .ok i) (ha : i.agent = .svc) :
    step s = exec i { s' with program := ps } := by
  obtain ⟨hfetch, hprog⟩ := fetchSvc_of_call hs hp he
  exact step_of_fetchSvc_run hs (by simp only [hfetch, fetchCall, hprog, hd, ha])

/-- A call of an operation of agent IRQ (R288). -/
theorem step_call_wrongContext {s s' : State} {p : Packet} {ps : List Packet} {i : Instr} {l : Line}
    (hs : svcMoves s = some s') (hp : s.phase = .idle) (he : s.program = p :: ps) (hd : decode (.op p) = .ok i)
    (ha : i.agent = .irq l) : step s = .refused (.wrongContext p.word) := by
  obtain ⟨hfetch, hprog⟩ := fetchSvc_of_call hs hp he
  exact step_of_stopped (by simp only [fetch_of_svcMoves hs, hfetch, fetchCall, hprog, hd, ha])

/-- A call of a word that names no operation (R91). -/
theorem step_call_rejected {s s' : State} {p : Packet} {ps : List Packet} {why : Reject} (hs : svcMoves s = some s')
    (hp : s.phase = .idle) (he : s.program = p :: ps) (hd : decode (.op p) = .error why) :
    step s = .refused (.namesNoInstruction why) := by
  obtain ⟨hfetch, hprog⟩ := fetchSvc_of_call hs hp he
  exact step_of_stopped (by simp only [fetch_of_svcMoves hs, hfetch, fetchCall, hprog, hd])

theorem step_testing {s s' : State} {l : Line} {f : Frame} (hs : svcMoves s = some s')
    (hp : s.phase = .testing l f) : step s = .next (serviceTest l f s') :=
  step_of_fetchSvc_moved hs (fetchSvc_of_testing ((svcMoves_phase hs).trans hp))

theorem step_selected {s s' : State} {l : Line} {f : Frame} (hs : svcMoves s = some s')
    (hp : s.phase = .selected l f) : step s = .next (serviceClear l f s') :=
  step_of_fetchSvc_moved hs (fetchSvc_of_selected ((svcMoves_phase hs).trans hp))

theorem step_rearm {s s' : State} {events : Nat} (hs : svcMoves s = some s') (hp : s.phase = .rearm events) :
    step s = .next (serviceRearm events s') :=
  step_of_fetchSvc_moved hs (fetchSvc_of_rearm ((svcMoves_phase hs).trans hp))

theorem step_byte {s s' : State} {d : Decode} {b : Byte} {i : Instr} (hs : svcMoves s = some s')
    (hp : s.phase = .decoding d) (hb : nextByte d s' = some b) (hd : decode (.frame d.off b) = .ok i) :
    step s = exec i s' :=
  step_of_fetchSvc_run hs
    ((fetchSvc_of_decoding ((svcMoves_phase hs).trans hp)).trans (fetchByte_of_some hb hd))

theorem step_finish {s s' : State} {d : Decode} (hs : svcMoves s = some s') (hp : s.phase = .decoding d)
    (hb : nextByte d s' = none) : step s = .next (finishDecode d s') :=
  step_of_fetchSvc_moved hs
    ((fetchSvc_of_decoding ((svcMoves_phase hs).trans hp)).trans (fetchByte_of_none hb))

/-- The state SVC moves in has the same buffer (only the turn is gone). -/
theorem svcMoves_buf {s s' : State} (h : svcMoves s = some s') : s'.buf = s.buf := by
  obtain ⟨ts, rfl⟩ := svcMoves_eq_some h
  rfl

theorem svcMoves_mask {s s' : State} (h : svcMoves s = some s') : s'.mask = s.mask := by
  obtain ⟨ts, rfl⟩ := svcMoves_eq_some h
  rfl

/-- Settles O42. -/
theorem stepRunsTheDecodedInstruction : Obligations.StepRunsTheDecodedInstruction := by
  intro s s' hs
  refine ⟨fun p ps i hp he hd ha => step_call hs hp he hd ha, fun d b i hp hlt h32 hb hd => ?_, fun f hp => ?_⟩
  · exact step_byte hs hp (nextByte_eq_some.2 ⟨hlt, h32, (svcMoves_buf hs).symm ▸ hb⟩) hd
  · exact step_of_fetchSvc_run hs (fetchSvc_of_calling ((svcMoves_phase hs).trans hp))

/-- The next byte is none where a bound is reached or no byte is available (R173). -/
theorem nextByte_eq_none {d : Decode} {s : State}
    (h : d.expected ≤ d.off ∨ maxRequest ≤ d.off ∨ Memory.read s.buf d.off = none) : nextByte d s = none := by
  refine Option.eq_none_iff_forall_ne_some.2 fun b hb => ?_
  obtain ⟨hlt, h32, hread⟩ := nextByte_eq_some.1 hb
  rcases h with h | h | h
  · omega
  · omega
  · cases h.symm.trans hread

/-- `trunc_32` of the sum, as a number (R199). -/
theorem nextFrameCount_eq_ofNat (n : BitVec 32) : nextFrameCount n = BitVec.ofNat 32 (n.toNat + 1) := by
  rw [nextFrameCount, BitVec.ofNat_add, BitVec.ofNat_toNat, BitVec.setWidth_eq]

/-- Settles O45: the three ways the loop ends are one, `nextByte` is none. -/
theorem decodeEndsByCountingTheFrame : Obligations.DecodeEndsByCountingTheFrame := by
  intro s s' d hs hp hend
  rw [← svcMoves_buf hs] at hend
  rw [step_finish hs hp (nextByte_eq_none hend), finishDecode, nextFrameCount_eq_ofNat]
  obtain ⟨ts, rfl⟩ := svcMoves_eq_some hs
  rfl

/-! ### Refusals -/

/-- The callback words name their callbacks, whatever travels beside them. -/
theorem decode_of_callbackWord {p : Packet} {l : Line} (h : p.word = callbackWord l) :
    decode (.op p) = .ok (callbackInstr l) := by
  rw [decode, h]
  cases l <;> rfl

/-- Settles O44, one clause for each way the fetch or `decodeFrame` refuses. -/
theorem otherContextsOperationIsRefused : Obligations.OtherContextsOperationIsRefused := by
  refine ⟨?called, ?fromIrq, ?rejected, ?rejectedIrq, ?decodeFrame⟩
  case called =>
    intro s s' p ps l hs hp he hw
    exact step_call_wrongContext hs hp he (decode_of_callbackWord hw) (callbackInstr_agent l)
  case fromIrq =>
    intro s ts i w ht hd ha
    exact step_of_stopped (by simp only [fetch_of_irq ht, fetchIrq, hd, ha])
  case rejected =>
    intro s s' p ps why hs hp he hd
    exact step_call_rejected hs hp he hd
  case rejectedIrq =>
    intro s ts w why ht hd
    exact step_of_stopped (by simp only [fetch_of_irq ht, fetchIrq, hd])
  case decodeFrame =>
    intro s s' p ps hs hp he hw
    have hd : decode (.op p) = .ok (.decodeFrame p.beside.frame) := by
      rw [decode, hw]
      rfl
    have hidle : s'.phase = .idle := (svcMoves_phase hs).trans hp
    simp only [step_call hs hp he hd rfl, exec, execDecodeFrame, hidle, svcOp_of_idle]

/-- Settles O37: every such operation is `svcOp`, `decodeFrame` everywhere but where `service` calls it. -/
theorem secondServiceThreadIsRefused : Obligations.SecondServiceThreadIsRefused := by
  intro s i ha hp hcall
  cases i <;> simp only [Instr.agent, reduceCtorEq] at ha
  case decodeFrame f =>
    rw [exec, execDecodeFrame]
    split
    · next g hg => exact absurd hg (hcall f g rfl)
    · exact svcOp_of_busy hp _
  all_goals exact if_neg hp

end Sys2Proof.Safety
end

section
/-! The marker register (40_marker_register.md): a firing is `fired`, which is idempotent and commutes. -/

namespace Sys2Proof.Safety

open Sys2Proof.Machine

theorem maskSet_maskSet_same (m : BitVec 8) (l : Line) : maskSet (maskSet m l) l = maskSet m l := by
  rw [maskSet, maskSet, BitVec.or_assoc, BitVec.or_self]

theorem maskSet_comm (m : BitVec 8) (l k : Line) : maskSet (maskSet m l) k = maskSet (maskSet m k) l :=
  calc m ||| lineFlag l ||| lineFlag k
    _ = m ||| (lineFlag l ||| lineFlag k) := BitVec.or_assoc _ _ _
    _ = m ||| (lineFlag k ||| lineFlag l) := by rw [BitVec.or_comm (lineFlag l)]
    _ = m ||| lineFlag k ||| lineFlag l := (BitVec.or_assoc _ _ _).symm

/-- Setting a set bit changes nothing (R136). -/
theorem maskSet_of_pendingIn {m : BitVec 8} {l : Line} (h : pendingIn m l = true) : maskSet m l = m := by
  revert m
  cases l <;> decide

theorem fired_fired_same (l : Line) (s : State) : fired l (fired l s) = fired l s := by
  by_cases hl : l = .dataReady
  · subst hl
    simp only [fired_dataReady, setDrLine, setPending, maskSet_maskSet_same]
  · simp only [fired_of_ne_dataReady hl, setPending, maskSet_maskSet_same]

theorem fired_comm (l k : Line) (s : State) : fired k (fired l s) = fired l (fired k s) := by
  by_cases hl : l = .dataReady <;> by_cases hk : k = .dataReady
  · rw [hl, hk]
  · subst hl
    simp only [fired_dataReady, fired_of_ne_dataReady hk, setDrLine, setPending, maskSet_comm s.mask k]
  · subst hk
    simp only [fired_dataReady, fired_of_ne_dataReady hl, setDrLine, setPending, maskSet_comm s.mask l]
  · simp only [fired_of_ne_dataReady hl, fired_of_ne_dataReady hk, setPending, maskSet_comm s.mask k]

/-- Settles O12. -/
theorem dataReadyFiringSetsBitAndHoldsLow : Obligations.DataReadyFiringSetsBitAndHoldsLow := fun _ h =>
  exec_callbackInstr_of_enabled (l := .dataReady) h

/-- Settles O14: every callback is `markLine` of its line. -/
theorem firingWithoutCallbackIsRefused : Obligations.FiringWithoutCallbackIsRefused := by
  intro s l h
  cases l <;> exact if_neg (ne_true_of_eq_false h)

/-- Settles O15. -/
theorem firingIsIdempotent : Obligations.FiringIsIdempotent := by
  intro s l h
  have hagain : enabledIn (fired l s).lineEnabled l = true := by rw [fired_lineEnabled, h]
  refine ⟨fired l s, exec_callbackInstr_of_enabled h, ?_, fun hp => ?_⟩
  · rw [exec_callbackInstr_of_enabled hagain, fired_fired_same]
  · rw [fired_mask, maskSet_of_pendingIn hp]

theorem execAll_cons_next {i : Instr} {is : List Instr} {s t : State} (h : exec i s = .next t) :
    execAll (i :: is) s = execAll is t := by
  rw [execAll, h]

theorem execAll_callbacks {s : State} {l k : Line} (hl : enabledIn s.lineEnabled l = true)
    (hk : enabledIn s.lineEnabled k = true) :
    execAll [callbackInstr l, callbackInstr k] s = .next (fired k (fired l s)) := by
  have hk' : enabledIn (fired l s).lineEnabled k = true := by rw [fired_lineEnabled, hk]
  rw [execAll_cons_next (exec_callbackInstr_of_enabled hl), execAll_cons_next (exec_callbackInstr_of_enabled hk'),
    execAll]

/-- Settles O16. -/
theorem firingsCommute : Obligations.FiringsCommute := fun s l k hl hk =>
  ⟨fired k (fired l s), execAll_callbacks hl hk, by rw [fired_comm, execAll_callbacks hk hl]⟩

end Sys2Proof.Safety
end

section
/-! The service routine (41_service.md): the choice of a line, its clear, the re-arm, and whole calls on a gesture path. -/

namespace Sys2Proof.Safety

open Sys2Proof.Machine

/-! ### The choice -/

/-- Settles O18: before `begin` the invariant leaves no bit set. -/
theorem serviceBeforeBeginFindsNothing : Obligations.ServiceBeforeBeginFindsNothing := fun _ f hinv hp hr =>
  exec_service_of_readableMask_eq_zero f hp (readableMask_eq_zero.2 (hinv.not_pending_of_not_ready hr))

/-- No line before `l` in priority order is pending (R281). -/
def NoneBefore (m : BitVec 8) (l : Line) : Prop := ∀ k, lineBit k < lineBit l → pendingIn m k = false

theorem firstPending_eq_some {m : BitVec 8} {l : Line} (hl : pendingIn m l = true) (hfirst : NoneBefore m l) :
    firstPending m = some l := by
  rcases firstPending_cases m with ⟨k, hk, hpk, hbefore⟩ | ⟨-, hnone⟩
  · rcases lt_trichotomy (lineBit k) (lineBit l) with hlt | heq | hgt
    · cases hpk.symm.trans (hfirst k hlt)
    · rw [hk, lineBit_injective heq]
    · cases hl.symm.trans (hbefore l hgt)
  · cases hl.symm.trans (hnone l)

/-- The choice is made from the whole-byte read, which shows the pending bits as they are. -/
theorem firstPending_readableMask (m : BitVec 8) : firstPending (readableMask m) = firstPending m := by
  simp only [firstPending, pendingIn_readableMask]

theorem readMask_ne_zero {s : State} {l : Line} (hl : pendingIn s.mask l = true) : readMask s ≠ 0 := fun h =>
  Bool.false_ne_true ((readableMask_eq_zero.1 h l).symm.trans hl)

/-- SELECT = snapshot (R151). -/
theorem exec_service_snapshot {s : State} {l : Line} (f : Frame) (hp : s.phase = .idle)
    (hs : s.params.select = .snapshot) (hl : pendingIn s.mask l = true) (hfirst : NoneBefore s.mask l) :
    exec (.service f) s = .next { s with phase := .selected l f, constructionDone := true } := by
  have hread : readMask (pastConstruction s) ≠ 0 := readMask_ne_zero (s := pastConstruction s) hl
  have hfp : firstPending (readMask (pastConstruction s)) = some l := by
    rw [readMask, firstPending_readableMask, pastConstruction_mask, firstPending_eq_some hl hfirst]
  rw [exec, execService, svcOp_of_idle hp, if_neg hread]
  simp only [pastConstruction_params, hs, chooseFrom, hfp]
  rfl

/-- SELECT = chained: the zero test passes, and the tests begin (R160). -/
theorem exec_service_chained {s : State} {l : Line} (f : Frame) (hp : s.phase = .idle)
    (hs : s.params.select = .chained) (hl : pendingIn s.mask l = true) :
    exec (.service f) s = .next { s with phase := .testing .dataReady f, constructionDone := true } := by
  have hread : readMask (pastConstruction s) ≠ 0 := readMask_ne_zero (s := pastConstruction s) hl
  rw [exec, execService, svcOp_of_idle hp, if_neg hread]
  simp only [pastConstruction_params, hs]
  rfl

/-- Settles O19. -/
theorem serviceChoosesTheHighestPriority : Obligations.ServiceChoosesTheHighestPriority := fun _ f _ hp hs hl hfirst =>
  exec_service_snapshot f hp hs hl hfirst

/-- A run of the tests, with no interrupt: from any line up to the first pending one, one step each. -/
theorem runFor_tests {n : Nat} {s : State} {j l : Line} {f : Frame} (ht : s.turns = []) (hp : s.phase = .testing j f)
    (hn : lineBit j + n = lineBit l) (hl : pendingIn s.mask l = true) (hfirst : NoneBefore s.mask l) :
    runFor (n + 1) s = .next { s with phase := .selected l f } := by
  have hstep := step_testing (svcMoves_of_no_turns ht) hp
  induction n generalizing s j with
  | zero =>
    cases lineBit_injective hn
    rw [runFor_next hstep, serviceTest_of_pending f hl]
    rfl
  | succ n ih =>
    have hlt : lineBit j < lineBit l := by omega
    obtain ⟨k, hk⟩ := exists_nextLine hlt
    have hkbit := lineBit_of_nextLine hk
    rw [runFor_next hstep, serviceTest_next f (hfirst j hlt) hk]
    exact ih ht rfl (by omega) hl hfirst (step_testing (svcMoves_of_no_turns ht) rfl)

/-- The command word of `service`, with the frame that travels beside it. -/
theorem decode_service (o : Operands) : decode (.op ⟨0x30#8, o⟩) = .ok (.service o.frame) := by
  simp only [decode]
  rfl

/-- A call of `service` with no other turn. -/
theorem step_service {s : State} {o : Operands} {rest : List Packet} (hp : s.phase = .idle) (ht : s.turns = [])
    (he : s.program = ⟨0x30#8, o⟩ :: rest) : step s = exec (.service o.frame) { s with program := rest } :=
  step_call (svcMoves_of_no_turns ht) hp he (decode_service o) rfl

/-- Settles O20: the equations of `serviceTest`, and by `runFor_tests` a run of them from the first line. -/
theorem chainedServiceChoosesTheSameLine : Obligations.ChainedServiceChoosesTheSameLine := by
  refine ⟨fun s s' l f hs hp => ?_, fun s o rest l hp ht hsel he hl hfirst => ?_⟩
  · rw [step_testing hs hp, ← svcMoves_mask hs]
    refine ⟨fun hl => ?_, fun hl => ⟨fun k hk => ?_, fun hlast => ?_⟩⟩
    · rw [serviceTest_of_pending f hl, goTo]
    · rw [serviceTest_next f hl (nextLine_of_lineBit hk), goTo]
    · rw [serviceTest_last f hl (by rw [hlast]; rfl), returns]
  · have hcall : step s =
        .next { s with program := rest, phase := .testing .dataReady o.frame, constructionDone := true } := by
      rw [step_service hp ht he]
      exact exec_service_chained (s := { s with program := rest }) o.frame hp hsel hl
    rw [runFor_next hcall]
    exact runFor_tests ht rfl (Nat.zero_add _) hl hfirst

/-! ### The clear and the re-arm -/

theorem serviceClear_mask (l : Line) (f : Frame) (s : State) : (serviceClear l f s).mask = maskClear s.mask l := by
  cases l <;> rfl

/-- A gesture path ends the call with 1 and does nothing else (R156). -/
theorem serviceClear_of_ne_dataReady {l : Line} (h : l ≠ .dataReady) (f : Frame) (s : State) :
    serviceClear l f s = returns (.value 1) (clearPending l s) := by
  cases l
  case dataReady => exact absurd rfl h
  all_goals rfl

/-- Settles O21. -/
theorem serviceClearsExactlyTheChosenBit : Obligations.ServiceClearsExactlyTheChosenBit := by
  intro s s' l f hs hp
  refine ⟨serviceClear l f s', step_selected hs hp, fun k => ?_, ?_, fun hl => ?_⟩
  · rw [serviceClear_mask, pendingIn_maskClear, svcMoves_mask hs]
  · rintro rfl
    rfl
  · rw [serviceClear_of_ne_dataReady hl]
    rfl

/-- The answer of the data-ready path (R155). -/
theorem serviceResult_eq (events : Nat) : serviceResult events = if events = 0 then 0 else 1 := by
  cases events <;> simp [serviceResult]

/-- Settles O22. -/
theorem serviceRearmsAndAnswers : Obligations.ServiceRearmsAndAnswers := by
  intro s s' events hs hp
  rw [step_rearm hs hp, serviceRearm, serviceResult_eq]
  rfl

theorem svcMoves_of_svc_turn {s : State} {ts : List Turn} (h : s.turns = .svc :: ts) :
    svcMoves s = some { s with turns := ts } := by
  simp only [svcMoves, h]

/-- Settles O23: the clear takes the chosen bit only, so the bit the firing set stays. -/
theorem noFiringIsLostBetweenReadAndClear : Obligations.NoFiringIsLostBetweenReadAndClear := by
  intro s l k f ts hp hne ht hf
  have hclear := step_selected (svcMoves_of_svc_turn (fired_turns k { s with turns := .svc :: ts }))
    ((fired_phase k _).trans hp)
  refine ⟨_, by rw [runFor_next (step_edge_fired ht hf), runFor_next hclear, runFor_zero], ?_, ?_⟩
  · simp [serviceClear_mask, pendingIn_maskClear, pendingIn_maskSet, hne]
  · simp [serviceClear_mask, pendingIn_maskClear]

/-- Settles O24: the re-arm releases the line and leaves `mask` as the firing left it. -/
theorem refiringBeforeTheRearmLeavesTheLineReleased : Obligations.RefiringBeforeTheRearmLeavesTheLineReleased := by
  intro s events hp ht hen henv
  have hf : lineFires s .dataReady = true := lineFires_iff.2 ⟨hen, .inl henv⟩
  have hrearm := step_rearm (svcMoves_of_no_turns (fired_turns .dataReady { s with turns := [] }))
    ((fired_phase .dataReady _).trans hp)
  refine ⟨_, by rw [runFor_next (step_edge_fired (l := .dataReady) ht hf), runFor_next hrearm, runFor_zero], ?_, rfl⟩
  simp [serviceRearm, pendingIn_maskSet]

/-- The first step of an uninterrupted `service` under SELECT = snapshot chooses the line (R151). -/
theorem step_service_snapshot {s : State} {o : Operands} {rest : List Packet} {l : Line} (hp : s.phase = .idle)
    (ht : s.turns = []) (hsel : s.params.select = .snapshot) (he : s.program = ⟨0x30#8, o⟩ :: rest)
    (hl : pendingIn s.mask l = true) (hfirst : NoneBefore s.mask l) :
    step s = .next { s with program := rest, phase := .selected l o.frame, constructionDone := true } := by
  rw [step_service hp ht he]
  exact exec_service_snapshot (s := { s with program := rest }) o.frame hp hsel hl hfirst

/-- The second one clears its bit. -/
theorem step_clear_after_choice {s : State} (ht : s.turns = []) (rest : List Packet) (l : Line) (f : Frame) :
    step { s with program := rest, phase := .selected l f, constructionDone := true } =
      .next (serviceClear l f { s with program := rest, phase := .selected l f, constructionDone := true }) :=
  step_selected (svcMoves_of_no_turns ht) rfl

/-- Settles O58: the choice and the clear. -/
theorem wholeServiceOfAGestureLine : Obligations.WholeServiceOfAGestureLine := by
  intro s o rest l hp ht hsel he hne hl hfirst
  rw [runFor_next (step_service_snapshot hp ht hsel he hl hfirst), runFor_next (step_clear_after_choice ht rest l _),
    runFor_zero, serviceClear_of_ne_dataReady hne, returns, ← hp]
  rfl

end Sys2Proof.Safety
end

section
/-! The frame decoder, byte by byte (42_frame_decoder.md): the request that starts a decode, and each handler at its own
offset. -/

namespace Sys2Proof.Safety

open Sys2Proof.Machine

/-! ### The start of a decode -/

/-- `decodeFrame` where `service` calls it (R170). -/
theorem exec_decodeFrame_of_calling {s : State} {g : Frame} (f : Frame) (hp : s.phase = .calling g) :
    exec (.decodeFrame f) s = .next (beginDecode f s) := by
  rw [exec, execDecodeFrame, hp]

/-- Settles O25. -/
theorem decodeFrameRequestsOneTransfer : Obligations.DecodeFrameRequestsOneTransfer := by
  intro s f
  refine ⟨fun g hp => ⟨_, exec_decodeFrame_of_calling f hp, rfl, fun k => Memory.read_transfer maxRequest f k,
    initExpected_pos s.params, s.params.initExpectedPred.isLt⟩, fun hp => ?_⟩
  simp only [exec, execDecodeFrame, hp, svcOp_of_idle]

/-! ### Every handler is `handleByte` of its offset -/

/-- `s` with other turns, and with other values of what interrupts write (10_state.md R44). -/
def withShared (ts : List Turn) (m : BitVec 8) (dr : DrLineMode) (s : State) : State :=
  { s with turns := ts, mask := m, drLineMode := dr }

@[simp] theorem withShared_params (ts : List Turn) (m : BitVec 8) (dr : DrLineMode) (s : State) :
    (withShared ts m dr s).params = s.params := rfl

theorem withShared_self (s : State) : withShared s.turns s.mask s.drLineMode s = s := rfl

/-- A handler is `handleByte` of its offset, and neither reads nor writes what interrupts write. -/
theorem exec_eq_handleByte {i : Instr} {k : Nat} {b : Byte} (h : encode i = .frame k b) (s : State) :
    ∃ write change, ∀ ts m dr,
      exec i (withShared ts m dr s) = handleByte k write change (withShared ts m dr s) ∧
      ∀ d, write d (withShared ts m dr s) = withShared ts m dr (write d s) := by
  cases i <;> cases h
  all_goals
    simp only [exec, execFrame0, execFrame1, execFrame2, execFrame3, execFrame4, execFrame5, execFrame6,
      execFrame7, execFrame8, execFrame9, execFrame10, execFrame11, execFrame12, execFrame13, execFrame14,
      execFrame15, execFrame16, execFrame17, execFrame18, execFrame19, execFrame20, execFrame21, execFrame22,
      execFrame23, execFrame24, execFrame25, execFrame26, execFrame27, execFrame28, execFrame29, execFrame30,
      execFrame31, ignoreByte, withShared_params]
    refine ⟨_, _, fun ts m dr => ⟨rfl, fun d => ?_⟩⟩
  case frame1 | frame10 | frame14 | frame15 | frame18 | frame25 => split <;> rfl
  all_goals rfl

/-- Settles O36. -/
theorem handlerOutOfPlaceIsRefused : Obligations.HandlerOutOfPlaceIsRefused := by
  intro s i k b hi hno
  obtain ⟨write, change, h⟩ := exec_eq_handleByte hi s
  have he := (h s.turns s.mask s.drLineMode).1
  rw [withShared_self] at he
  rw [he, handleByte_elsewhere hno]

section AtItsOffset

variable {s : State} {d : Decode} {b : Byte}

theorem exec_frame0 (hp : s.phase = .decoding d) (hk : d.off = 0) : exec (.frame0 b) s = .next { s with
    phase := .decoding { d with expected := declareLength s.params.lenReading d.expected b, off := 1 } } :=
  show execFrame0 b s = _ from handleByte_of_decoding hp hk

theorem exec_frame1 (hp : s.phase = .decoding d) (hk : d.off = 1) : exec (.frame1 b) s = .next (goTo
    (.decoding { d with off := 2 }) (if codeFires b then { s with lastGenericEventCode := swipeCode b } else s)) :=
  show execFrame1 b s = _ from handleByte_of_decoding hp hk

theorem exec_frame7 (hp : s.phase = .decoding d) (hk : d.off = 7) : exec (.frame7 b) s = .next { s with
    phase := .decoding { d with pv := positionValid b, av := airWheelValid b, off := 8 } } :=
  show execFrame7 b s = _ from handleByte_of_decoding hp hk

theorem exec_frame10 (hp : s.phase = .decoding d) (hk : d.off = 10) : exec (.frame10 b) s = .next (goTo
    (.decoding { countEvent (codeFires b) d with off := 11 })
    (if codeFires b then { s with lastSwipeCode := swipeCode b } else s)) :=
  show execFrame10 b s = _ from handleByte_of_decoding hp hk

theorem exec_frame14 (hp : s.phase = .decoding d) (hk : d.off = 14) : exec (.frame14 b) s = .next (goTo
    (.decoding { countEvent (tapFires b) d with off := 15 })
    (if tapFires b then { s with lastTapCode := tapCode b } else s)) :=
  show execFrame14 b s = _ from handleByte_of_decoding hp hk

theorem exec_frame15 (hp : s.phase = .decoding d) (hk : d.off = 15) : exec (.frame15 b) s = .next (goTo
    (.decoding { countEvent (tapContFires b) d with off := 16 })
    (if tapContFires b then { s with lastTapCode := tapCodeCont b } else s)) :=
  show execFrame15 b s = _ from handleByte_of_decoding hp hk

theorem exec_frame18 (hp : s.phase = .decoding d) (hk : d.off = 18) : exec (.frame18 b) s = .next (goTo
    (.decoding { countEvent d.av d with off := 19 })
    (if d.av then { s with airWheelAccumulator := accumulate s.airWheelAccumulator b } else s)) :=
  show execFrame18 b s = _ from handleByte_of_decoding hp hk

theorem exec_frame20 (hp : s.phase = .decoding d) (hk : d.off = 20) : exec (.frame20 b) s =
    .next { s with phase := .decoding { d with tx := lowByte b, off := 21 } } :=
  show execFrame20 b s = _ from handleByte_of_decoding hp hk

theorem exec_frame21 (hp : s.phase = .decoding d) (hk : d.off = 21) : exec (.frame21 b) s =
    .next { s with phase := .decoding { d with tx := joinHigh d.tx b, off := 22 } } :=
  show execFrame21 b s = _ from handleByte_of_decoding hp hk

theorem exec_frame22 (hp : s.phase = .decoding d) (hk : d.off = 22) : exec (.frame22 b) s =
    .next { s with phase := .decoding { d with ty := lowByte b, off := 23 } } :=
  show execFrame22 b s = _ from handleByte_of_decoding hp hk

theorem exec_frame23 (hp : s.phase = .decoding d) (hk : d.off = 23) : exec (.frame23 b) s =
    .next { s with phase := .decoding { d with ty := joinHigh d.ty b, off := 24 } } :=
  show execFrame23 b s = _ from handleByte_of_decoding hp hk

theorem exec_frame24 (hp : s.phase = .decoding d) (hk : d.off = 24) : exec (.frame24 b) s =
    .next { s with phase := .decoding { d with tz := lowByte b, off := 25 } } :=
  show execFrame24 b s = _ from handleByte_of_decoding hp hk

theorem exec_frame25 (hp : s.phase = .decoding d) (hk : d.off = 25) : exec (.frame25 b) s = .next (goTo
    (.decoding { d with tz := joinHigh d.tz b, off := 26 })
    (if d.pv then { s with lastPosition := committed d.tx d.ty (joinHigh d.tz b) } else s)) :=
  show execFrame25 b s = _ from handleByte_of_decoding hp hk

end AtItsOffset

/-! ### The length byte and the flags -/

/-- R176: `max` under the normative reading. -/
theorem declareLength_total (e : Nat) (b : Byte) : declareLength .total e b = max e b.toNat := by
  by_cases h : e < b.toNat
  · rw [declareLength, if_pos h]
    exact (max_eq_right h.le).symm
  · rw [declareLength, if_neg h, max_eq_left (by omega)]

/-- R206: one less under the reading set aside. -/
theorem declareLength_literalMinusOne (e : Nat) (b : Byte) :
    declareLength .literalMinusOne e b = max e (b.toNat - 1) := by
  by_cases h : e < b.toNat
  · rw [declareLength, if_pos h]
    exact (max_eq_right (by omega)).symm
  · rw [declareLength, if_neg h, max_eq_left (by omega)]

/-- Settles O27. -/
theorem declaredLengthRaisesTheBound : Obligations.DeclaredLengthRaisesTheBound := by
  intro s d b hp hk
  refine ⟨fun hr => ?_, fun hr => ?_⟩
  · rw [exec_frame0 hp hk, hr, declareLength_total]
  · rw [exec_frame0 hp hk, hr, declareLength_literalMinusOne]

theorem positionValid_eq (b : Byte) : positionValid b = decide (b.toNat % 2 = 1) := by
  rw [positionValid, BitVec.getLsbD, Nat.testBit_zero]

theorem airWheelValid_eq (b : Byte) : airWheelValid b = decide (b.toNat / 2 % 2 = 1) := by
  rw [airWheelValid, BitVec.getLsbD, Nat.testBit_succ, Nat.testBit_zero]

/-- Settles O28. -/
theorem systemInfoSetsTheTwoFlags : Obligations.SystemInfoSetsTheTwoFlags := by
  intro s d b hp hk
  rw [exec_frame7 hp hk, positionValid_eq, airWheelValid_eq]

/-! ### The event codes -/

/-- The shift of R100 as a power of two. -/
theorem swipeCode_eq (b : Byte) : swipeCode b = BitVec.ofNat 8 (2 ^ (b.toNat - 1)) ||| 0x20#8 := by
  rw [swipeCode, Nat.one_shiftLeft]

/-- R101 as arithmetic: the byte's bits 7 to 5. -/
theorem tapCode_eq (b : Byte) : tapCode b = BitVec.ofNat 8 (0x40 + b.toNat / 32) := by
  revert b
  decide

/-- R102 as arithmetic: the byte's bits 1 and 0. -/
theorem tapCodeCont_eq (b : Byte) : tapCodeCont b = BitVec.ofNat 8 (0x40 + 8 * (b.toNat % 4)) := by
  revert b
  decide

/-- Settles O29: whether the byte fires decides both the register and the count. -/
theorem codeBytesWriteTheirCode : Obligations.CodeBytesWriteTheirCode := by
  intro s d b hp
  refine ⟨fun hk => ?_, fun hk => ?_⟩
  · rw [exec_frame1 hp hk, swipeCode_eq]
    by_cases hf : 1 < b.toNat <;> simp [codeFires, goTo, hf]
  · rw [exec_frame10 hp hk, swipeCode_eq]
    by_cases hf : 1 < b.toNat <;> simp [codeFires, countEvent, goTo, hf]

/-- Settles O30: as for O29. -/
theorem touchBytesWriteTheTapCode : Obligations.TouchBytesWriteTheTapCode := by
  intro s d b hp
  refine ⟨fun hk => ?_, fun hk => ?_⟩
  · rw [exec_frame14 hp hk, tapCode_eq]
    by_cases hf : 31 < b.toNat <;> simp [tapFires, countEvent, goTo, hf]
  · rw [exec_frame15 hp hk, tapCodeCont_eq]
    by_cases hf : 0 < b.toNat <;> simp [tapContFires, countEvent, goTo, hf]

/-- Settles O31: the two clauses of O30 in turn. -/
theorem lastTouchByteWins : Obligations.LastTouchByteWins := by
  intro s d a b hp hk
  have h14 := (touchBytesWriteTheTapCode s d a hp).1 hk
  have h15 := (touchBytesWriteTheTapCode { s with
    lastTapCode := if 31 < a.toNat then BitVec.ofNat 8 (0x40 + a.toNat / 32) else s.lastTapCode
    phase := .decoding { d with off := 15, events := if 31 < a.toNat then d.events + 1 else d.events } } _ b rfl).2 rfl
  refine ⟨_, _, by rw [execAll_cons_next h14, execAll_cons_next h15, execAll], rfl, rfl, ?_⟩
  dsimp only
  split_ifs <;> rfl

/-- Settles O35: the tables are the formulas over the 256 bytes. -/
theorem eventCodeValueTables : Obligations.EventCodeValueTables := by
  refine ⟨?swipe, ?tap, ?tapCont⟩
  all_goals decide

/-! ### The air wheel -/

/-- The accumulator's signed value is the balanced remainder of the sum (R103, R192). -/
theorem accumulate_toInt (acc : BitVec 16) (b : Byte) :
    (accumulate acc b).toInt = Int.bmod (acc.toInt + b.toInt) (2 ^ 16) := by
  have hdelta : (wheelDelta b).toInt = b.toInt := BitVec.toInt_signExtend_of_le (by decide)
  rw [accumulate, BitVec.toInt_add, hdelta]

/-- Settles O32. -/
theorem airWheelAccumulatesSignedDelta : Obligations.AirWheelAccumulatesSignedDelta := by
  intro s d b hp hk
  refine ⟨fun hav => ⟨_, accumulate_toInt s.airWheelAccumulator b, ?_⟩, fun hav => ?_⟩
  · simp [exec_frame18 hp hk, countEvent, goTo, hav]
  · simp [exec_frame18 hp hk, countEvent, goTo, hav]

/-! ### The position -/

/-- Settles O33: the byte as a 16-bit number, low half or high. -/
theorem positionBytesAreHeldThenCommitted : Obligations.PositionBytesAreHeldThenCommitted := by
  intro s d b hp
  refine ⟨fun hk => ?_, fun hk => ?_, fun hk => ?_, fun hk => ?_, fun hk => ?_, fun hk => ?_⟩
  · rw [exec_frame20 hp hk, lowByte_eq_ofNat]
  · rw [exec_frame21 hp hk, joinHigh_eq_ofNat]
  · rw [exec_frame22 hp hk, lowByte_eq_ofNat]
  · rw [exec_frame23 hp hk, joinHigh_eq_ofNat]
  · rw [exec_frame24 hp hk, lowByte_eq_ofNat]
  · rw [exec_frame25 hp hk, joinHigh_eq_ofNat]
    cases d.pv <;> rfl

/-- `le16` as a number (20_memory.md R66). -/
theorem le16_toNat (lo hi : Byte) : (le16 lo hi).toNat = lo.toNat + 256 * hi.toNat := by
  have hlo := lo.isLt
  have hhi := hi.isLt
  have hor : 256 * hi.toNat ||| lo.toNat = 256 * hi.toNat + lo.toNat :=
    (Nat.two_pow_add_eq_or_of_lt (i := 8) hlo hi.toNat).symm
  rw [le16, joinHigh_eq_ofNat, lowByte_eq_ofNat, BitVec.toNat_or, BitVec.toNat_ofNat, BitVec.toNat_ofNat,
    Nat.mod_eq_of_lt (by omega), Nat.mod_eq_of_lt (by omega), Nat.or_comm, hor,
    Nat.add_comm]

theorem axis_le16_toInt (lo hi : Byte) : (axis (le16 lo hi)).toInt = lo.toNat + 256 * hi.toNat := by
  have hlt := axis_toNat_lt (le16 lo hi)
  have hval : (axis (le16 lo hi)).toNat = lo.toNat + 256 * hi.toNat := by
    rw [axis, BitVec.toNat_setWidth, le16_toNat, Nat.mod_eq_of_lt]
    rw [← le16_toNat]
    exact (le16 lo hi).isLt.trans (by decide)
  rw [BitVec.toInt_eq_toNat_of_lt (by omega), hval]
  push_cast
  rfl

section PositionPairs

variable {s : State} {d : Decode} (lo hi : Byte) (is : List Instr)

/-- Offsets 20 and 21 hold x (R194). -/
theorem execAll_frame20_frame21 (hp : s.phase = .decoding d) (hk : d.off = 20) :
    execAll (.frame20 lo :: .frame21 hi :: is) s =
      execAll is { s with phase := .decoding { d with tx := le16 lo hi, off := 22 } } := by
  rw [execAll_cons_next (exec_frame20 hp hk)]
  exact execAll_cons_next (exec_frame21 (d := { d with tx := lowByte lo, off := 21 }) rfl rfl)

/-- Offsets 22 and 23 hold y (R195). -/
theorem execAll_frame22_frame23 (hp : s.phase = .decoding d) (hk : d.off = 22) :
    execAll (.frame22 lo :: .frame23 hi :: is) s =
      execAll is { s with phase := .decoding { d with ty := le16 lo hi, off := 24 } } := by
  rw [execAll_cons_next (exec_frame22 hp hk)]
  exact execAll_cons_next (exec_frame23 (d := { d with ty := lowByte lo, off := 23 }) rfl rfl)

/-- Offsets 24 and 25 hold z, and commit all three axes where the flag is set (R196). -/
theorem execAll_frame24_frame25 (hp : s.phase = .decoding d) (hk : d.off = 24) :
    execAll (.frame24 lo :: .frame25 hi :: is) s =
      execAll is (goTo (.decoding { d with tz := le16 lo hi, off := 26 })
        (if d.pv then { s with lastPosition := committed d.tx d.ty (le16 lo hi) } else s)) := by
  rw [execAll_cons_next (exec_frame24 hp hk)]
  refine (execAll_cons_next (exec_frame25 (d := { d with tz := lowByte lo, off := 25 }) rfl rfl)).trans ?_
  cases d.pv <;> rfl

end PositionPairs

/-- Settles O34: the three pairs in turn. -/
theorem positionBlockIsLittleEndian : Obligations.PositionBlockIsLittleEndian := by
  intro s d b0 b1 b2 b3 b4 b5 hp hk
  have hrun : execAll [.frame20 b0, .frame21 b1, .frame22 b2, .frame23 b3, .frame24 b4, .frame25 b5] s =
      .next (goTo (.decoding { d with tx := le16 b0 b1, ty := le16 b2 b3, tz := le16 b4 b5, off := 26 })
        (if d.pv then { s with lastPosition := committed (le16 b0 b1) (le16 b2 b3) (le16 b4 b5) } else s)) := by
    rw [execAll_frame20_frame21 b0 b1 _ hp hk]
    refine (execAll_frame22_frame23 (d := { d with tx := le16 b0 b1, off := 22 }) b2 b3 _ rfl rfl).trans ?_
    refine (execAll_frame24_frame25 (d := { d with tx := le16 b0 b1, ty := le16 b2 b3, off := 24 }) b4 b5 _ rfl
      rfl).trans ?_
    cases d.pv <;> rfl
  refine ⟨_, hrun, ?_, fun hpv => ?_, fun hpv => ?_⟩
  · cases d.pv <;> rfl
  · rw [hpv]
    exact ⟨axis_le16_toInt b0 b1, axis_le16_toInt b2 b3, axis_le16_toInt b4 b5⟩
  · rw [hpv]
    rfl

end Sys2Proof.Safety
end

section
/-! What one step may change: each statement goes through the kinds of step (`step_move`), and each kind through its
frame. -/

namespace Sys2Proof.Safety

open Sys2Proof.Machine

/-! ### Frames of the steps -/

theorem serviceTest_frame (l : Line) (f : Frame) (s : State) :
    serviceTest l f s = { s with phase := (serviceTest l f s).phase, result := (serviceTest l f s).result } := by
  cases hl : pendingIn s.mask l with
  | true =>
    rw [serviceTest_of_pending f hl]
    rfl
  | false =>
    cases hk : nextLine l with
    | none =>
      rw [serviceTest_last f hl hk]
      rfl
    | some k =>
      rw [serviceTest_next f hl hk]
      rfl

theorem serviceClear_frame (l : Line) (f : Frame) (s : State) :
    serviceClear l f s = { s with
      mask := maskClear s.mask l, phase := (serviceClear l f s).phase, result := (serviceClear l f s).result } := by
  cases l <;> rfl

/-- A call, `construct` apart, writes neither `mask` nor the frame count, and none of the construction arguments. -/
structure CallFrame (s t : State) : Prop where
  frame : t = { s with
    gestureIrqPins := t.gestureIrqPins
    lastPosition := t.lastPosition
    lastSwipeCode := t.lastSwipeCode
    lastTapCode := t.lastTapCode
    lastGenericEventCode := t.lastGenericEventCode
    airWheelAccumulator := t.airWheelAccumulator
    ready := t.ready
    lineEnabled := t.lineEnabled
    drLineMode := t.drLineMode
    phase := t.phase
    constructionDone := true
    result := t.result
    issued := t.issued }
  position : t.lastPosition = s.lastPosition ∨ t.lastPosition = Position.invalid
  after_begin : s.ready = true →
    t.ready = true ∧ t.gestureIrqPins = s.gestureIrqPins ∧ t.lineEnabled = s.lineEnabled
  outside : ∀ d, t.phase ≠ .decoding d

/-- A call is the one `construct`, or within `CallFrame`. -/
theorem CallEffect.cases_construct {i : Instr} {s t : State} (h : CallEffect i s t) :
    (∃ dr rst addr, i = .construct dr rst addr ∧ s.constructionDone = false ∧ t = constructed dr rst addr s) ∨
    CallFrame s t := by
  cases h with
  | construct dr rst addr hi hc => exact .inl ⟨dr, rst, addr, hi, hc, rfl⟩
  | setPin _ pin k _ _ hr =>
    exact .inr ⟨rfl, .inl rfl, fun h => absurd (hr.symm.trans h) Bool.false_ne_true, fun _ => Phase.noConfusion⟩
  | begin _ hr =>
    exact .inr ⟨rfl, .inl rfl, fun h => absurd (hr.symm.trans h) Bool.false_ne_true, fun _ => Phase.noConfusion⟩
  | clean => exact .inr ⟨rfl, .inr rfl, fun h => ⟨h, rfl, rfl⟩, fun _ => Phase.noConfusion⟩
  | badIndex | nothing | select | chain | read =>
    exact .inr ⟨rfl, .inl rfl, fun h => ⟨h, rfl, rfl⟩, fun _ => Phase.noConfusion⟩

/-- The caller's call is the one `construct` exactly where the statements say so. -/
theorem callsConstruct_of_call {s s' : State} {p : Packet} {ps : List Packet} {dr rst : PinId} {addr : BusAddress}
    (hs : svcMoves s = some s') (hp : s.phase = .idle) (he : s.program = p :: ps)
    (hd : decode (.op p) = .ok (.construct dr rst addr)) (hc : s.constructionDone = false) : callsConstruct s := by
  obtain ⟨q, hq, hword⟩ := encode_of_decodeCommand hd
  cases hq
  exact ⟨hc, hp, ⟨s', hs⟩, p, ps, he, hword.symm⟩

/-- A step of agent SVC from idle is a wait, the one `construct`, or a call within `CallFrame`. -/
theorem callFrame_of_call {s s' t : State} {p : Packet} {ps : List Packet} {i : Instr} (hs : svcMoves s = some s')
    (hp : s.phase = .idle) (he : s.program = p :: ps) (hd : decode (.op p) = .ok i)
    (ht : CallEffect i { s' with program := ps } t) :
    (callsConstruct s ∧ ∃ dr rst addr, t = constructed dr rst addr { s' with program := ps }) ∨
    CallFrame { s' with program := ps } t := by
  refine ht.cases_construct.imp_left ?_
  rintro ⟨dr, rst, addr, rfl, hc, rfl⟩
  have hdone : s.constructionDone = false := by
    obtain ⟨ts, rfl⟩ := svcMoves_eq_some hs
    exact hc
  exact ⟨callsConstruct_of_call hs hp he hd hdone, dr, rst, addr, rfl⟩

/-! ### The marker register -/

/-- What a step can do to `mask`. -/
inductive MaskChange (s : State) : BitVec 8 → Prop where
  | same : MaskChange s s.mask
  | set (l : Line) (ts : List Turn) (h : s.turns = .irq (callbackWord l) :: ts) : MaskChange s (maskSet s.mask l)
  | clear (l : Line) (f : Frame) (h : s.phase = .selected l f) : MaskChange s (maskClear s.mask l)
  | construct (h : callsConstruct s) : MaskChange s 0x00#8

theorem step_maskChange {s t : State} (hstep : step s = .next t) : MaskChange s t.mask := by
  cases step_move hstep with
  | noEdge w ts => exact .same
  | edge l ts ht hf =>
    rw [ite_eq_fired, fired_mask]
    exact .set l ts ht
  | wait s' hs => exact svcMoves_mask hs ▸ .same
  | call s' t p ps i hs hp he hd ha ht =>
    rcases callFrame_of_call hs hp he hd ht with ⟨hc, dr, rst, addr, rfl⟩ | hframe
    · exact .construct hc
    · have hmask : t.mask = s'.mask := (congrArg State.mask hframe.frame :)
      rw [hmask, svcMoves_mask hs]
      exact .same
  | test s' l f hs hp =>
    have hmask : (serviceTest l f s').mask = s'.mask := (congrArg State.mask (serviceTest_frame l f s') :)
    rw [hmask, svcMoves_mask hs]
    exact .same
  | clear s' l f hs hp =>
    rw [serviceClear_mask, svcMoves_mask hs]
    exact .clear l f hp
  | start s' f hs hp => exact svcMoves_mask hs ▸ .same
  | byte s' t d d' b hs hp hb he =>
    rw [he.mask_eq, svcMoves_mask hs]
    exact .same
  | finish s' d hs hp => exact svcMoves_mask hs ▸ .same
  | rearm s' events hs hp => exact svcMoves_mask hs ▸ .same

/-- While a `construct` may still come, no bit is set (log 8). -/
theorem MachineInv.not_callsConstruct_of_pending {s : State} {l : Line} (h : MachineInv s)
    (hl : pendingIn s.mask l = true) : ¬ callsConstruct s := by
  rintro ⟨hc, -⟩
  have hmask : s.mask = 0x00#8 := congrArg State.mask (h.construction_first hc)
  rw [hmask] at hl
  cases l <;> cases hl

section MaskChange

variable {s : State} {m : BitVec 8} {l : Line}

/-- A bit becomes 1 only by its line's callback (40_marker_register.md R137). -/
theorem MaskChange.edge_of_set (h : MaskChange s m) (hs : pendingIn s.mask l = false) (hm : pendingIn m l = true) :
    ∃ ts, s.turns = .irq (callbackWord l) :: ts := by
  cases h with
  | same => cases hs.symm.trans hm
  | set k ts ht =>
    rw [pendingIn_maskSet, hs, Bool.false_or, decide_eq_true_iff] at hm
    exact ⟨ts, hm ▸ ht⟩
  | clear k f hp =>
    rw [pendingIn_maskClear, hs, Bool.false_and] at hm
    cases hm
  | construct hc => cases l <;> cases hm

/-- A bit becomes 0 only where `service` chose it, or by the one `construct` (60_exceptions.md R278). -/
theorem MaskChange.selected_of_clear (h : MaskChange s m) (hs : pendingIn s.mask l = true)
    (hm : pendingIn m l = false) : (∃ f, s.phase = .selected l f) ∨ callsConstruct s := by
  cases h with
  | same => cases hs.symm.trans hm
  | set k ts ht =>
    rw [pendingIn_maskSet, hs, Bool.true_or] at hm
    cases hm
  | clear k f hp =>
    rw [pendingIn_maskClear, hs, Bool.true_and, decide_eq_false_iff_not, not_not] at hm
    exact .inl ⟨f, hm ▸ hp⟩
  | construct hc => exact .inr hc

end MaskChange

/-- Settles O48: by what a step can do to `mask`; under the invariant the one `construct` finds no bit set. -/
theorem pendingBitsChangeOnlyByTheirOwners : Obligations.PendingBitsChangeOnlyByTheirOwners := by
  intro s t l hstep
  have hmask := step_maskChange hstep
  refine ⟨hmask.edge_of_set, hmask.selected_of_clear, fun hinv hs ht => ?_⟩
  exact (hmask.selected_of_clear hs ht).resolve_right (hinv.not_callsConstruct_of_pending hs)

/-! ### Interrupt context -/

/-- On an edge's turn agent SVC does not move. -/
theorem svcMoves_of_irq {s s' : State} {w : Byte} {ts : List Turn} (ht : s.turns = .irq w :: ts) :
    svcMoves s ≠ some s' := by
  simp [svcMoves, ht]

/-- A step of interrupt context: nothing but the turn, or one firing. -/
theorem step_irq_cases {s t : State} {w : Byte} {ts : List Turn} (ht : s.turns = .irq w :: ts)
    (hstep : step s = .next t) :
    t = { s with turns := ts } ∨ ∃ l, w = callbackWord l ∧ t = fired l { s with turns := ts } := by
  cases step_move hstep with
  | noEdge w' ts' ht' =>
    cases ht.symm.trans ht'
    exact .inl rfl
  | edge l ts' ht' hf =>
    cases ht.symm.trans ht'
    exact .inr ⟨l, rfl, rfl⟩
  | wait _ hs | call _ _ _ _ _ hs | test _ _ _ hs | clear _ _ _ hs | start _ _ hs | byte _ _ _ _ _ hs
    | finish _ _ hs | rearm _ _ hs => exact absurd hs (svcMoves_of_irq ht)

/-- A firing writes `drLineMode` only for line 0, and only HOLD_LOW (R131). -/
theorem fired_drLineMode (l : Line) (s : State) :
    (fired l s).drLineMode = s.drLineMode ∨ l = .dataReady ∧ (fired l s).drLineMode = .holdLow := by
  by_cases hl : l = .dataReady
  · subst hl
    exact .inr ⟨rfl, rfl⟩
  · rw [fired_of_ne_dataReady hl]
    exact .inl rfl

/-- Settles O49. -/
theorem interruptContextTouchesOnlyTheShared : Obligations.InterruptContextTouchesOnlyTheShared := by
  intro s t w ts ht hstep
  rcases step_irq_cases ht hstep with rfl | ⟨l, rfl, rfl⟩
  · exact ⟨rfl, fun _ h => h, .inl rfl⟩
  · refine ⟨?_, fun k hk => ?_, ?_⟩
    · rw [fired_mask]
      exact fired_frame l _
    · rw [fired_mask]
      exact pendingIn_maskSet_of_pendingIn l hk
    · refine (fired_drLineMode l { s with turns := ts }).imp_right fun h => ⟨?_, h.2⟩
      rw [h.1]
      rfl

/-! ### A decode and the interrupts -/

/-- A word that no callback has is refused in every state; every other is the word of a line. -/
theorem fetchIrq_word_cases (w : Byte) :
    (∃ r, ∀ s, fetchIrq w s = .stopped r) ∨ ∃ l, w = callbackWord l := by
  cases hd : decode (.op ⟨w, Operands.zero⟩) with
  | error why => exact .inl ⟨.namesNoInstruction why, fun s => by simp only [fetchIrq, hd]⟩
  | ok i =>
    cases ha : i.agent with
    | irq l => exact .inr ⟨l, word_of_callback (callbackInstr_of_agent ha ▸ hd)⟩
    | svc => exact .inl ⟨.wrongContext w, fun s => by simp only [fetchIrq, hd, ha]⟩
    | decoder => exact .inl ⟨.wrongContext w, fun s => by simp only [fetchIrq, hd, ha]⟩

/-- A byte of a frame does the same to the rest of the state whatever the turns, `mask` and `drLineMode` are. -/
theorem exec_byte_withShared {s : State} {d : Decode} {b : Byte} {i : Instr} (hp : s.phase = .decoding d)
    (hi : encode i = .frame d.off b) :
    ∃ v, ∀ ts m dr, exec i (withShared ts m dr s) = .next (withShared ts m dr v) := by
  obtain ⟨write, change, h⟩ := exec_eq_handleByte hi s
  refine ⟨goTo (.decoding { change d with off := d.off + 1 }) (write d s), fun ts m dr => ?_⟩
  obtain ⟨hexec, hwrite⟩ := h ts m dr
  have hp' : (withShared ts m dr s).phase = .decoding d := hp
  rw [hexec, handleByte_of_decoding hp' rfl, hwrite]
  rfl

/-- So does every step of SVC inside a decode; and it always answers next, with the enables and the parameters as they
were. -/
theorem step_decoding_withShared {s : State} {d : Decode} (hp : s.phase = .decoding d) :
    ∃ v, v.lineEnabled = s.lineEnabled ∧ v.params = s.params ∧
      ∀ ts m dr, step (withShared (.svc :: ts) m dr s) = .next (withShared ts m dr v) := by
  have hs : ∀ ts m dr, svcMoves (withShared (.svc :: ts) m dr s) = some (withShared ts m dr s) := fun _ _ _ => rfl
  cases hb : nextByte d s with
  | none => exact ⟨finishDecode d s, rfl, rfl, fun ts m dr => step_finish (hs ts m dr) hp hb⟩
  | some b =>
    have h32 : d.off < 32 := (nextByte_eq_some.1 hb).2.1
    obtain ⟨i, hd, hi⟩ := decodeByte_of_lt h32 b
    obtain ⟨v, hv⟩ := exec_byte_withShared hp hi
    obtain ⟨t, d', ht, he⟩ := byte_effect hp h32 hd
    have hvt : withShared s.turns s.mask s.drLineMode v = t :=
      Host.Outcome.next.inj ((hv s.turns s.mask s.drLineMode).symm.trans ht)
    refine ⟨v, ?_, ?_, fun ts m dr => (step_byte (hs ts m dr) hp hb hd).trans (hv ts m dr)⟩
    · rw [← he.lineEnabled_eq, ← hvt]
      rfl
    · have hparams : t.params = s.params := (congrArg State.params he.frame :)
      rw [← hparams, ← hvt]
      rfl

/-- What an edge of a line does to the shared part is the same in every state with the same enables and parameters. -/
theorem step_edge_withShared (s : State) (l : Line) (m : BitVec 8) (dr : DrLineMode) :
    ∃ m' dr', ∀ u ts, u.lineEnabled = s.lineEnabled → u.params = s.params →
      step (withShared (.irq (callbackWord l) :: ts) m dr u) = .next (withShared ts m' dr' u) := by
  have hsame : ∀ u ts, u.lineEnabled = s.lineEnabled → u.params = s.params →
      lineFires (withShared ts m dr u) l = lineFires (withShared [] m dr s) l := by
    intro u ts hen hpar
    simp only [lineFires, withShared, hen, hpar]
  cases hf : lineFires (withShared [] m dr s) l with
  | false => exact ⟨m, dr, fun u ts hen hpar => step_edge_silent rfl ((hsame u _ hen hpar).trans hf)⟩
  | true =>
    refine ⟨maskSet m l, if l = .dataReady then .holdLow else dr, fun u ts hen hpar => ?_⟩
    rw [step_edge_fired rfl ((hsame u _ hen hpar).trans hf), fired]
    split <;> rfl

/-- Settles O50: the edge acts on the shared part alone, SVC on the rest alone; and a refused word is refused in both
orders. -/
theorem interruptsCommuteWithDecoding : Obligations.InterruptsCommuteWithDecoding := by
  intro s d w ts hp
  obtain ⟨v, hen, hpar, hsvc⟩ := step_decoding_withShared hp
  show runFor 2 (withShared (.irq w :: .svc :: ts) s.mask s.drLineMode s) =
    runFor 2 (withShared (.svc :: .irq w :: ts) s.mask s.drLineMode s)
  rw [runFor_next (hsvc (.irq w :: ts) s.mask s.drLineMode)]
  rcases fetchIrq_word_cases w with ⟨r, hr⟩ | ⟨l, rfl⟩
  · rw [runFor_refused (step_of_stopped ((fetch_of_irq rfl).trans (hr _))),
      runFor_refused (step_of_stopped ((fetch_of_irq rfl).trans (hr _)))]
  · obtain ⟨m', dr', hedge⟩ := step_edge_withShared s l s.mask s.drLineMode
    rw [runFor_next (hedge s (.svc :: ts) rfl rfl), runFor_next (hsvc ts m' dr'), runFor_next (hedge v ts hen hpar)]

/-! ### The counters, the configuration, the position -/

theorem add_one_ne_self (n : BitVec 32) : n + 1#32 ≠ n := by
  bv_omega

/-- What a step does to the registers: it is the one `construct`, a call within `CallFrame`, a byte, the end of a
decode, or writes no register but `mask` and `drLineMode`. -/
inductive RegisterChange (s t : State) : Prop where
  | construct (hc : callsConstruct s) (hp : s.phase = .idle) (dr rst : PinId) (addr : BusAddress) (ts : List Turn)
      (ps : List Packet) (ht : t = constructed dr rst addr { s with turns := ts, program := ps })
  | call (hp : s.phase = .idle) (ts : List Turn) (ps : List Packet)
      (ht : CallFrame { s with turns := ts, program := ps } t)
  | byte (d d' : Decode) (b : Byte) (ts : List Turn) (hp : s.phase = .decoding d) (hb : nextByte d s = some b)
      (ht : ByteEffect d b { s with turns := ts } t d')
  | finish (d : Decode) (ts : List Turn) (hp : s.phase = .decoding d) (ht : t = finishDecode d { s with turns := ts })
  | none (hp : t.phase = s.phase ∨ ∀ d, s.phase ≠ .decoding d)
      (ht : t = { s with
        mask := t.mask, drLineMode := t.drLineMode, buf := t.buf, phase := t.phase, turns := t.turns,
        result := t.result, issued := t.issued })

theorem step_registerChange {s t : State} (hstep : step s = .next t) : RegisterChange s t := by
  cases step_move hstep with
  | noEdge w ts => exact .none (.inl rfl) rfl
  | edge l ts ht hf =>
    rw [ite_eq_fired, fired_frame]
    exact .none (.inl rfl) rfl
  | wait s' hs hp =>
    obtain ⟨ts, rfl⟩ := svcMoves_eq_some hs
    exact .none (.inl rfl) rfl
  | call s' t p ps i hs hp he hd ha ht =>
    obtain ⟨ts, rfl⟩ := svcMoves_eq_some hs
    rcases callFrame_of_call hs hp he hd ht with ⟨hc, dr, rst, addr, ht⟩ | hframe
    · exact .construct hc hp dr rst addr ts ps ht
    · exact .call hp ts ps hframe
  | test s' l f hs hp =>
    obtain ⟨ts, rfl⟩ := svcMoves_eq_some hs
    rw [serviceTest_frame]
    exact .none (.inr (by simp [hp])) rfl
  | clear s' l f hs hp =>
    obtain ⟨ts, rfl⟩ := svcMoves_eq_some hs
    rw [serviceClear_frame]
    exact .none (.inr (by simp [hp])) rfl
  | start s' f hs hp | rearm s' events hs hp =>
    obtain ⟨ts, rfl⟩ := svcMoves_eq_some hs
    exact .none (.inr (by simp [hp])) rfl
  | byte s' t d d' b hs hp hb he =>
    obtain ⟨ts, rfl⟩ := svcMoves_eq_some hs
    exact .byte d d' b ts hp hb he
  | finish s' d hs hp =>
    obtain ⟨ts, rfl⟩ := svcMoves_eq_some hs
    exact .finish d ts hp rfl

/-- Settles O51: only the end of a decode counts, and it is the only step that leaves one. -/
theorem frameCountCountsDecodes : Obligations.FrameCountCountsDecodes := by
  intro s t hstep hno
  have unchanged : t.frameCount = s.frameCount → (∀ d, s.phase ≠ .decoding d) ∨ (∃ d, t.phase = .decoding d) →
      (t.frameCount = s.frameCount ∨ t.frameCount = s.frameCount + 1#32) ∧
      (t.frameCount ≠ s.frameCount ↔ (∃ d, s.phase = .decoding d) ∧ ∀ d, t.phase ≠ .decoding d) := by
    refine fun hsame hphase => ⟨.inl hsame, fun h => absurd hsame h, ?_⟩
    rintro ⟨⟨d, hd⟩, hleft⟩
    rcases hphase with hout | ⟨d', hd'⟩
    · exact absurd hd (hout d)
    · exact absurd hd' (hleft d')
  cases step_registerChange hstep with
  | construct hc => exact absurd hc hno
  | call hp ts ps ht => exact unchanged (congrArg State.frameCount ht.frame :) (.inl (by simp [hp]))
  | byte d d' b ts hp hb ht => exact unchanged (congrArg State.frameCount ht.frame :) (.inr ⟨d', ht.phase_eq⟩)
  | finish d ts hp ht =>
    subst ht
    exact ⟨.inr rfl, fun _ => ⟨⟨d, hp⟩, fun _ => Phase.noConfusion⟩, fun _ => add_one_ne_self _⟩
  | none hp ht =>
    refine unchanged (congrArg State.frameCount ht :) ?_
    by_cases hd : ∃ d, t.phase = .decoding d
    · exact .inr hd
    · exact .inl (hp.elim (fun hsame d h => hd ⟨d, hsame.trans h⟩) id)

/-- Settles O52: a call may configure only before `begin`, and the other steps write nothing of the configuration. -/
theorem configurationIsIrreversible : Obligations.ConfigurationIsIrreversible := by
  intro s t hstep
  cases step_registerChange hstep with
  | construct hc hp dr rst addr ts ps ht =>
    subst ht
    exact ⟨rfl, fun _ => rfl, fun hno => absurd hc hno⟩
  | call hp ts ps ht =>
    have hafter := ht.after_begin
    rw [ht.frame]
    exact ⟨rfl, fun _ => rfl, fun _ => ⟨rfl, rfl, rfl, hafter⟩⟩
  | byte d d' b ts hp hb ht =>
    rw [ht.frame]
    exact ⟨rfl, id, fun _ => ⟨rfl, rfl, rfl, fun h => ⟨h, rfl, rfl⟩⟩⟩
  | finish d ts hp ht =>
    subst ht
    exact ⟨rfl, id, fun _ => ⟨rfl, rfl, rfl, fun h => ⟨h, rfl, rfl⟩⟩⟩
  | none hp ht =>
    rw [ht]
    exact ⟨rfl, id, fun _ => ⟨rfl, rfl, rfl, fun h => ⟨h, rfl, rfl⟩⟩⟩

/-- Settles O53: a call writes only the sentinel (R27), a byte only the three held values. -/
theorem positionIsReplacedWhole : Obligations.PositionIsReplacedWhole := by
  intro s t hstep hne
  cases step_registerChange hstep with
  | construct hc hp dr rst addr ts ps ht => exact .inl ⟨(congrArg State.lastPosition ht :), hp⟩
  | call hp ts ps ht => exact .inl ⟨ht.position.resolve_left hne, hp⟩
  | byte d d' b ts hp hb ht =>
    have hpos := ht.position
    split at hpos
    · next hcommit =>
      obtain ⟨h25, hpv⟩ := hcommit
      have hread := (nextByte_eq_some.1 hb).2.2
      rw [h25] at hread
      rw [joinHigh_eq_ofNat] at hpos
      exact .inr ⟨d, b, hp, h25, hpv, hread, hpos⟩
    · exact absurd hpos hne
  | finish d ts hp ht => exact absurd (congrArg State.lastPosition ht) hne
  | none hp ht => exact absurd (congrArg State.lastPosition ht) hne

/-! ### Inside a decode -/

/-- A code the decoder writes is never the clean value 0 (R200). -/
theorem swipeCode_ne_zero (b : Byte) : swipeCode b ≠ 0x00#8 := by
  revert b
  decide

theorem tapCode_ne_zero (b : Byte) : tapCode b ≠ 0x00#8 := by
  revert b
  decide

theorem tapCodeCont_ne_zero (b : Byte) : tapCodeCont b ≠ 0x00#8 := by
  revert b
  decide

/-- An axis is never the sentinel's (R196). -/
theorem axis_ne_neg_one (v : BitVec 16) : axis v ≠ -1 := by
  intro h
  have hlt := axis_toNat_lt v
  rw [h] at hlt
  exact absurd hlt (by decide)

/-- What the step of a decode may write: no clean code, no sentinel, and of the rest of the state only the decoder's own
outputs, the transients, the turns and what interrupts write. -/
structure DecoderWrites (s t : State) : Prop where
  swipe : t.lastSwipeCode = s.lastSwipeCode ∨ t.lastSwipeCode ≠ 0x00#8
  tap : t.lastTapCode = s.lastTapCode ∨ t.lastTapCode ≠ 0x00#8
  generic : t.lastGenericEventCode = s.lastGenericEventCode ∨ t.lastGenericEventCode ≠ 0x00#8
  position : t.lastPosition = s.lastPosition ∨
    (t.lastPosition.x ≠ -1 ∧ t.lastPosition.y ≠ -1 ∧ t.lastPosition.z ≠ -1)
  frame : t = { s with
    lastSwipeCode := t.lastSwipeCode, lastTapCode := t.lastTapCode, lastGenericEventCode := t.lastGenericEventCode,
    lastPosition := t.lastPosition, airWheelAccumulator := t.airWheelAccumulator, frameCount := t.frameCount,
    buf := t.buf, phase := t.phase, turns := t.turns, mask := t.mask, drLineMode := t.drLineMode }

theorem ByteEffect.decoderWrites {d d' : Decode} {b : Byte} {s t : State} {ts : List Turn}
    (he : ByteEffect d b { s with turns := ts } t d') : DecoderWrites s t := by
  constructor
  case swipe =>
    rw [he.swipe]
    split
    · exact .inr (swipeCode_ne_zero b)
    · exact .inl rfl
  case tap =>
    rw [he.tap]
    split
    · exact .inr (tapCode_ne_zero b)
    · split
      · exact .inr (tapCodeCont_ne_zero b)
      · exact .inl rfl
  case generic =>
    rw [he.generic]
    split
    · exact .inr (swipeCode_ne_zero b)
    · exact .inl rfl
  case position =>
    rw [he.position]
    split
    · exact .inr ⟨axis_ne_neg_one _, axis_ne_neg_one _, axis_ne_neg_one _⟩
    · exact .inl rfl
  case frame =>
    rw [he.frame]

theorem ByteEffect.drLineMode_eq {d d' : Decode} {b : Byte} {s t : State} (he : ByteEffect d b s t d') :
    t.drLineMode = s.drLineMode := (congrArg State.drLineMode he.frame :)

/-- A step from inside a decode: an interrupt's, which leaves SVC where it is, the next byte, or the end. -/
theorem step_decoding_cases {s t : State} {d : Decode} (hp : s.phase = .decoding d) (hstep : step s = .next t) :
    ((∀ s', svcMoves s ≠ some s') ∧ ∃ ts, t = { s with turns := ts, mask := t.mask, drLineMode := t.drLineMode }) ∨
    (∃ ts b d', nextByte d s = some b ∧ ByteEffect d b { s with turns := ts } t d') ∨
    (∃ ts, nextByte d s = none ∧ t = finishDecode d { s with turns := ts }) := by
  cases step_move hstep with
  | noEdge w ts ht => exact .inl ⟨fun _ => svcMoves_of_irq ht, ts, rfl⟩
  | edge l ts ht hf =>
    rw [ite_eq_fired, fired_mask]
    exact .inl ⟨fun _ => svcMoves_of_irq ht, ts, fired_frame l _⟩
  | byte s' t d₁ d' b hs hp' hb he =>
    cases hp.symm.trans hp'
    obtain ⟨ts, rfl⟩ := svcMoves_eq_some hs
    exact .inr (.inl ⟨ts, b, d', hb, he⟩)
  | finish s' d₁ hs hp' hb =>
    cases hp.symm.trans hp'
    obtain ⟨ts, rfl⟩ := svcMoves_eq_some hs
    exact .inr (.inr ⟨ts, hb, rfl⟩)
  | wait _ _ hp' | call _ _ _ _ _ _ hp' | test _ _ _ _ hp' | clear _ _ _ _ hp' | start _ _ _ hp'
    | rearm _ _ _ hp' => cases hp.symm.trans hp'

/-- A step from inside a decode keeps to `DecoderWrites`, and one of SVC leaves what interrupts write. -/
theorem step_decoderWrites {s t : State} {d : Decode} (hp : s.phase = .decoding d) (hstep : step s = .next t) :
    DecoderWrites s t ∧ ((∃ s', svcMoves s = some s') → t.mask = s.mask ∧ t.drLineMode = s.drLineMode) := by
  rcases step_decoding_cases hp hstep with ⟨hirq, ts, hframe⟩ | ⟨ts, b, d', -, he⟩ | ⟨ts, -, rfl⟩
  · refine ⟨?_, fun ⟨s', hs⟩ => absurd hs (hirq s')⟩
    rw [hframe]
    exact ⟨.inl rfl, .inl rfl, .inl rfl, .inl rfl, rfl⟩
  · exact ⟨he.decoderWrites, fun _ => ⟨he.mask_eq, he.drLineMode_eq⟩⟩
  · exact ⟨⟨.inl rfl, .inl rfl, .inl rfl, .inl rfl, rfl⟩, fun _ => ⟨rfl, rfl⟩⟩

/-- Settles O54. -/
theorem decoderNeverClears : Obligations.DecoderNeverClears := by
  intro s t d hp hstep
  obtain ⟨⟨hswipe, htap, hgeneric, hposition, hframe⟩, hshared⟩ := step_decoderWrites hp hstep
  exact ⟨hswipe, htap, hgeneric, hposition, hframe, hshared⟩

/-- Inside a decode with no other turn, a step always answers: the next byte's, one offset further, or the end. -/
theorem exists_step_decoding {s : State} {d : Decode} (hp : s.phase = .decoding d) (ht : s.turns = []) :
    ∃ t, step s = .next t ∧ ((∀ d', t.phase ≠ .decoding d') ∨
      t.turns = [] ∧ d.off < 32 ∧ ∃ d', t.phase = .decoding d' ∧ d'.off = d.off + 1) := by
  have hs := svcMoves_of_no_turns ht
  cases hb : nextByte d s with
  | none => exact ⟨_, step_finish hs hp hb, .inl fun _ => Phase.noConfusion⟩
  | some b =>
    have h32 : d.off < 32 := (nextByte_eq_some.1 hb).2.1
    obtain ⟨i, hd, -⟩ := decodeByte_of_lt h32 b
    obtain ⟨t, d', hx, he⟩ := byte_effect hp h32 hd
    have hturns : t.turns = s.turns := (congrArg State.turns he.frame :)
    exact ⟨t, (step_byte hs hp hb hd).trans hx, .inr ⟨hturns.trans ht, h32, d', he.phase_eq, he.off⟩⟩

/-- With at most `n` offsets left below 32, a decode ends within `n + 1` steps. -/
theorem decode_ends_within {n : Nat} {s : State} {d : Decode} (hp : s.phase = .decoding d) (ht : s.turns = [])
    (hn : 32 ≤ d.off + n) : ∃ k t, k ≤ n + 1 ∧ runFor k s = .next t ∧ ∀ d', t.phase ≠ .decoding d' := by
  induction n generalizing s d with
  | zero =>
    obtain ⟨t, hstep, hend | ⟨-, h32, -⟩⟩ := exists_step_decoding hp ht
    · exact ⟨1, t, le_rfl, by rw [runFor_next hstep, runFor_zero], hend⟩
    · omega
  | succ n ih =>
    obtain ⟨t, hstep, hend | ⟨hturns, -, d', hp', hoff⟩⟩ := exists_step_decoding hp ht
    · exact ⟨1, t, by omega, by rw [runFor_next hstep, runFor_zero], hend⟩
    · obtain ⟨k, u, hk, hrun, hout⟩ := ih hp' hturns (by omega)
      exact ⟨k + 1, u, by omega, by rw [runFor_next hstep, hrun], hout⟩

/-- Settles O55. -/
theorem decodeEnds : Obligations.DecodeEnds := fun _ _ hp ht => decode_ends_within hp ht (Nat.le_add_left 32 _)

end Sys2Proof.Safety
end

section
/-! A whole decode and a whole `service` (42_frame_decoder.md R204, 41_service.md R150). The functions of the frame in
`Safety` take the number of consumed bytes as an argument, so the same functions say what the registers hold after `k`
bytes; one lemma for each says how byte `k` moves it on. -/

namespace Sys2Proof.Safety

open Sys2Proof.Machine

/-! ### The frame's functions, one byte further -/

theorem byteAt_of_le {f : Frame} {k j : Nat} (h : k ≤ j) : byteAt f k j = none := if_neg (Nat.not_lt_of_le h)

theorem byteAt_of_lt {f : Frame} {k j : Nat} (h : j < k) : byteAt f k j = f[j]? := if_pos h

section NextByte

variable {f : Frame} {k : Nat} {b : Byte} (hb : f[k]? = some b)

include hb

theorem byteAt_succ (j : Nat) : byteAt f (k + 1) j = if k = j then some b else byteAt f k j := by
  by_cases hj : k = j
  · subst hj
    rw [if_pos rfl, byteAt_of_lt (Nat.lt_succ_self k), hb]
  · rw [if_neg hj]
    by_cases hlt : j < k
    · rw [byteAt_of_lt hlt, byteAt_of_lt (by omega)]
    · rw [byteAt_of_le (by omega), byteAt_of_le (by omega)]

/-- Every offset below a delivered byte has one. -/
theorem exists_byteAt_of_lt {j : Nat} (hj : j < k) : ∃ c, byteAt f k j = some c := by
  obtain ⟨hk, -⟩ := List.getElem?_eq_some_iff.1 hb
  exact ⟨f[j], by rw [byteAt_of_lt hj, List.getElem?_eq_getElem]⟩

theorem holdsAt_succ (j : Nat) (cond : Byte → Bool) :
    holdsAt f (k + 1) j cond = if k = j then cond b else holdsAt f k j cond := by
  rw [holdsAt, byteAt_succ hb]
  by_cases hj : k = j
  · rw [if_pos hj, if_pos hj]
  · rw [if_neg hj, if_neg hj, holdsAt]

theorem overwrite_succ (j : Nat) (fires : Byte → Bool) (code : Byte → Byte) (old : Byte) :
    overwrite f (k + 1) j fires code old =
      if k = j ∧ fires b = true then code b else overwrite f k j fires code old := by
  rw [overwrite, byteAt_succ hb]
  by_cases hj : k = j
  · subst hj
    simp [overwrite, byteAt_of_le]
  · simp [overwrite, hj]

end NextByte

theorem overwrite_of_le {f : Frame} {k j : Nat} (h : k ≤ j) (fires : Byte → Bool) (code : Byte → Byte) (old : Byte) :
    overwrite f k j fires code old = old := by
  rw [overwrite, byteAt_of_le h]

theorem holdsAt_of_le {f : Frame} {k j : Nat} (h : k ≤ j) (cond : Byte → Bool) : holdsAt f k j cond = false := by
  rw [holdsAt, byteAt_of_le h]

theorem wheelAfter_of_le {f : Frame} {k : Nat} (h : k ≤ 18) (old : BitVec 16) : wheelAfter f k old = old := by
  rw [wheelAfter, byteAt_of_le h]

theorem positionAfter_of_lt {f : Frame} {k : Nat} (h : k < 26) (old : Position) : positionAfter f k old = old := by
  rw [positionAfter, decide_eq_false (Nat.not_le_of_lt h), Bool.and_false, if_neg Bool.false_ne_true]

/-- The accumulator's sum as the frame's functions write it (R192). -/
theorem ofInt_toInt_add_toInt (acc : BitVec 16) (b : Byte) :
    BitVec.ofInt 16 (acc.toInt + b.toInt) = accumulate acc b := by
  rw [BitVec.ofInt_add, BitVec.ofInt_toInt]
  rfl

/-- The holding register of the field at offset `j` after `k` bytes (R40): 0, its low byte, or both. -/
def heldAt (f : Frame) (k j : Nat) : BitVec 16 :=
  match byteAt f k j, byteAt f k (j + 1) with
  | some lo, some hi => le16 lo hi
  | some lo, none => lowByte lo
  | none, _ => 0#16

/-- A field whose bytes are both consumed is what its holding register holds (20_memory.md R66). -/
theorem fieldAt_eq_heldAt {f : Frame} {k j : Nat} {lo hi : Byte} (hlo : byteAt f k j = some lo)
    (hhi : byteAt f k (j + 1) = some hi) : fieldAt f k j = heldAt f k j := by
  simp only [fieldAt, heldAt, hlo, hhi]
  rw [← le16_toNat, BitVec.ofNat_toNat, BitVec.setWidth_eq]

section NextByteOfRegister

variable {f : Frame} {k : Nat} {b : Byte} (hb : f[k]? = some b)

include hb

theorem heldAt_succ (j : Nat) : heldAt f (k + 1) j =
    if k = j then lowByte b else if k = j + 1 then joinHigh (heldAt f k j) b else heldAt f k j := by
  unfold heldAt
  rw [byteAt_succ hb, byteAt_succ hb]
  by_cases hj : k = j
  · subst hj
    simp [byteAt_of_le]
  · by_cases hj1 : k = j + 1
    · subst hj1
      obtain ⟨lo, hlo⟩ := exists_byteAt_of_lt hb (Nat.lt_succ_self j)
      simp [hlo, byteAt_of_le, le16]
    · simp [hj, hj1]

theorem frameHasPosition_succ :
    frameHasPosition f (k + 1) = if k = 7 then positionValid b else frameHasPosition f k := holdsAt_succ hb 7 _

theorem frameHasWheel_succ :
    frameHasWheel f (k + 1) = if k = 7 then airWheelValid b else frameHasWheel f k := holdsAt_succ hb 7 _

theorem wheelAfter_succ (old : BitVec 16) : wheelAfter f (k + 1) old =
    if k = 18 ∧ frameHasWheel f k = true then accumulate (wheelAfter f k old) b else wheelAfter f k old := by
  by_cases h18 : k = 18
  · subst h18
    rw [wheelAfter_of_le le_rfl, wheelAfter, byteAt_succ hb, if_pos rfl, frameHasWheel_succ hb, if_neg (by decide)]
    simp only [true_and, ofInt_toInt_add_toInt]
  · rw [if_neg fun h => h18 h.1]
    by_cases h7 : k = 7
    · rw [wheelAfter_of_le (by omega), wheelAfter_of_le (by omega)]
    · rw [wheelAfter, byteAt_succ hb, if_neg h18, frameHasWheel_succ hb, if_neg h7, wheelAfter]

/-- A field both of whose bytes lie below byte `k` is not touched by it. -/
theorem fieldAt_succ_of_lt {j : Nat} (hj : j + 1 < k) : fieldAt f (k + 1) j = fieldAt f k j := by
  rw [fieldAt, byteAt_succ hb, byteAt_succ hb, if_neg (by omega), if_neg (by omega), fieldAt]

/-- Once byte `j + 1` is consumed, the field is what its holding register holds. -/
theorem fieldAt_succ_eq_heldAt {j : Nat} (hj : j + 1 ≤ k) : fieldAt f (k + 1) j = heldAt f (k + 1) j := by
  have hbyte : ∀ i ≤ k, ∃ c, byteAt f (k + 1) i = some c := by
    intro i hi
    rw [byteAt_succ hb]
    split
    · exact ⟨b, rfl⟩
    · exact exists_byteAt_of_lt hb (by omega)
  obtain ⟨lo, hlo⟩ := hbyte j (by omega)
  obtain ⟨hi, hhi⟩ := hbyte (j + 1) hj
  exact fieldAt_eq_heldAt hlo hhi

theorem positionAfter_succ (old : Position) : positionAfter f (k + 1) old =
    if k = 25 ∧ frameHasPosition f k = true then
      committed (heldAt f k 20) (heldAt f k 22) (joinHigh (heldAt f k 24) b)
    else positionAfter f k old := by
  rcases Nat.lt_trichotomy k 25 with hlt | rfl | hgt
  · have hno : ¬(k = 25 ∧ frameHasPosition f k = true) := fun h => by omega
    rw [if_neg hno, positionAfter_of_lt (by omega), positionAfter_of_lt (by omega)]
  · rw [positionAfter_of_lt (k := 25) (by decide), positionAfter, frameHasPosition_succ hb,
      if_neg (show ¬25 = 7 by decide), fieldAt_succ_eq_heldAt hb (j := 20) (by decide),
      fieldAt_succ_eq_heldAt hb (j := 22) (by decide), fieldAt_succ_eq_heldAt hb (j := 24) (by decide), heldAt_succ hb,
      heldAt_succ hb, heldAt_succ hb]
    simp [committed, axis]
  · have hno : ¬(k = 25 ∧ frameHasPosition f k = true) := fun h => by omega
    rw [if_neg hno, positionAfter, positionAfter, frameHasPosition_succ hb, if_neg (show ¬k = 7 by omega),
      fieldAt_succ_of_lt hb (by omega), fieldAt_succ_of_lt hb (by omega), fieldAt_succ_of_lt hb (by omega),
      decide_eq_true (show 26 ≤ k + 1 by omega), decide_eq_true (show 26 ≤ k by omega)]

/-- One counting offset: it counts at its own byte only. -/
theorem count_holdsAt_succ (j : Nat) (cond : Byte → Bool) :
    (if holdsAt f (k + 1) j cond then 1 else 0) =
      (if holdsAt f k j cond then 1 else 0) + (if k = j ∧ cond b = true then 1 else 0) := by
  rw [holdsAt_succ hb]
  by_cases hj : k = j
  · subst hj
    simp [holdsAt_of_le]
  · simp [hj]

/-- The air wheel counts at offset 18, where the flag of offset 7 is set. -/
theorem count_wheel_succ :
    (if frameHasWheel f (k + 1) && holdsAt f (k + 1) 18 fun _ => true then 1 else 0) =
      (if frameHasWheel f k && holdsAt f k 18 fun _ => true then 1 else 0) +
        (if k = 18 ∧ frameHasWheel f k = true then 1 else 0) := by
  rw [frameHasWheel_succ hb, holdsAt_succ hb]
  by_cases h18 : k = 18
  · subst h18
    simp [holdsAt_of_le]
  · by_cases h7 : k = 7
    · subst h7
      simp [holdsAt_of_le]
    · simp [h18, h7]

omit hb in
/-- The four counting offsets differ, so a byte counts at one of them at most. -/
theorem count_slots (p10 p14 p15 p18 : Bool) :
    (if k = 10 ∧ p10 = true then 1 else 0) + (if k = 14 ∧ p14 = true then 1 else 0) +
      (if k = 15 ∧ p15 = true then 1 else 0) + (if k = 18 ∧ p18 = true then 1 else 0) =
    if (k = 10 ∧ p10 = true) ∨ (k = 14 ∧ p14 = true) ∨ (k = 15 ∧ p15 = true) ∨ (k = 18 ∧ p18 = true)
      then 1 else 0 := by
  grind

theorem eventsIn_succ : eventsIn f (k + 1) = eventsIn f k +
    if (k = 10 ∧ codeFires b = true) ∨ (k = 14 ∧ tapFires b = true) ∨ (k = 15 ∧ tapContFires b = true) ∨
      (k = 18 ∧ frameHasWheel f k = true) then 1 else 0 := by
  rw [← count_slots]
  unfold eventsIn codeFires tapFires tapContFires
  rw [count_holdsAt_succ hb, count_holdsAt_succ hb, count_holdsAt_succ hb, count_wheel_succ hb]
  ring

end NextByteOfRegister

/-! ### The decode as an invariant of its bytes -/

/-- What holds after `k` bytes of the decode of `f` called in `s`: every register is what its bytes so far say, every
transient what is still needed of them. -/
structure DecodedUpTo (s : State) (f : Frame) (k : Nat) (t : State) (d : Decode) : Prop where
  frame : t = { s with
    lastGenericEventCode := t.lastGenericEventCode
    lastSwipeCode := t.lastSwipeCode
    lastTapCode := t.lastTapCode
    airWheelAccumulator := t.airWheelAccumulator
    lastPosition := t.lastPosition
    buf := t.buf
    phase := t.phase
    issued := s.issued ++ [.requestTransfer s.busAddress maxRequest] }
  generic : t.lastGenericEventCode = overwrite f k 1 codeFires swipeCode s.lastGenericEventCode
  swipe : t.lastSwipeCode = overwrite f k 10 codeFires swipeCode s.lastSwipeCode
  tap : t.lastTapCode =
    overwrite f k 15 tapContFires tapCodeCont (overwrite f k 14 tapFires tapCode s.lastTapCode)
  wheel : t.airWheelAccumulator = wheelAfter f k s.airWheelAccumulator
  position : t.lastPosition = positionAfter f k s.lastPosition
  pv : d.pv = frameHasPosition f k
  av : d.av = frameHasWheel f k
  tx : d.tx = heldAt f k 20
  ty : d.ty = heldAt f k 22
  tz : d.tz = heldAt f k 24
  events : d.events = eventsIn f k

/-- Each byte moves its own register on, as its handler does (`ByteEffect`). -/
theorem DecodedUpTo.byte {s t t' : State} {f : Frame} {k : Nat} {d d' : Decode} {b : Byte}
    (h : DecodedUpTo s f k t d) (hb : f[k]? = some b) (hoff : d.off = k) (he : ByteEffect d b t t' d') :
    DecodedUpTo s f (k + 1) t' d' := by
  subst hoff
  constructor
  case frame =>
    rw [he.frame, h.frame]
  case generic => rw [he.generic, h.generic, overwrite_succ hb]
  case swipe => rw [he.swipe, h.swipe, overwrite_succ hb]
  case tap =>
    rw [he.tap, h.tap, overwrite_succ hb 15, overwrite_succ hb 14]
    by_cases h14 : d.off = 14 ∧ tapFires b = true
    · have h15 : ¬(d.off = 15 ∧ tapContFires b = true) := fun h15 => by omega
      rw [if_pos h14, if_pos h14, if_neg h15, overwrite_of_le (by omega)]
    · rw [if_neg h14, if_neg h14]
  case wheel => rw [he.wheel, h.wheel, h.av, wheelAfter_succ hb]
  case position => rw [he.position, h.position, h.pv, h.tx, h.ty, h.tz, positionAfter_succ hb]
  case pv => rw [he.pv, h.pv, frameHasPosition_succ hb]
  case av => rw [he.av, h.av, frameHasWheel_succ hb]
  case tx => rw [he.tx, h.tx, heldAt_succ hb]
  case ty => rw [he.ty, h.ty, heldAt_succ hb]
  case tz => rw [he.tz, h.tz, heldAt_succ hb]
  case events => rw [he.events, h.events, h.av, eventsIn_succ hb]

theorem decodedUpTo_invariant (s : State) (f : Frame) : DecodeInvariant s f (DecodedUpTo s f) where
  start := ⟨rfl, rfl, rfl, rfl, rfl, rfl, rfl, rfl, rfl, rfl, rfl, rfl⟩
  byte := fun _ hb hoff he h => h.byte hb hoff he

/-- Once all its bytes are consumed, the end of the decode leaves what the frame says. -/
theorem DecodedUpTo.finish {s t : State} {f : Frame} {d : Decode} (h : DecodedUpTo s f (consumed s.params f) t d) :
    finishDecode d t = { decoded f s with phase := .rearm (decodedEvents f s) } := by
  rw [finishDecode, h.events, h.frame, h.generic, h.swipe, h.tap, h.wheel, h.position]
  rfl

/-- Settles O56: the invariant of the bytes, at the last one. -/
theorem wholeDecodeFollowsTheOffsetTable : Obligations.WholeDecodeFollowsTheOffsetTable := by
  intro s f hp ht
  obtain ⟨t, d, hrun, hall⟩ := wholeDecode_of_invariant (decodedUpTo_invariant s f) hp ht
  rw [hrun, hall.finish]

/-! ### A whole `service` on the data-ready path -/

/-- Settles O57: the choice, the clear, the whole decode (O56) and the re-arm. -/
theorem wholeServiceDecodesOneFrame : Obligations.WholeServiceDecodesOneFrame := by
  intro s o rest hp ht hsel he hl
  have hchoice := step_service_snapshot hp ht hsel he hl (fun k hk => absurd hk (Nat.not_lt_zero _))
  have hclear := step_clear_after_choice ht rest .dataReady o.frame
  have hdecode := wholeDecodeFollowsTheOffsetTable
    (serviceClear .dataReady o.frame
      { s with program := rest, phase := .selected .dataReady o.frame, constructionDone := true }) o.frame rfl ht
  rw [runFor_next hchoice, runFor_next hclear]
  refine (runFor_add (k := 1) hdecode).trans ?_
  refine (runFor_next (step_rearm (svcMoves_of_no_turns (by exact ht)) rfl)).trans ?_
  rw [runFor_zero, serviceRearm, serviceResult_eq, returns, ← hp]
  rfl

end Sys2Proof.Safety
end
